-- ==== Sys2Proof/Word.lean ====
section
/-! DEFINITION. The bit-level types of the ZL18 and the plainest arithmetic of its counts (00_scope, 1.6). -/

namespace Sys2Proof

/-- A byte of a frame, an envelope, a burst or the configuration block. -/
abbrev Byte := BitVec 8

/-- A frame check, a sample set check or the configuration check (R8). -/
abbrev Check := BitVec 16

/-- The 48-bit identifier of a pack (1.7). -/
abbrev PackId := BitVec 48

/-- The 64-bit factory identity of a ZL18 (1.7). -/
abbrev UniqueId := BitVec 64

/-- One value for each of the station numbers 1 to 31. -/
abbrev Stations (α : Type) := Vector α 31

/-- One value for each of the 16 filter channels, or of the 16 event kinds. -/
abbrev Sixteen (α : Type) := Vector α 16

/-- The next value of a count that saturates at `cap` (1.6: it stays at its largest value). -/
def satSucc (cap n : Nat) : Nat := min (n + 1) cap

/-- A sum that saturates at `cap`. -/
def satAdd (cap n k : Nat) : Nat := min (n + k) cap

/-- A quotient rounded up (1.6, ceil). -/
def divUp (a b : Nat) : Nat := (a + b - 1) / b

end Sys2Proof
end

