-- ==== Sys2Proof/Syntax.lean ====
section
/-! DEFINITION. The vocabulary of the ZL18 (named values, frames, inputs) and its commands: `Instr`, one
constructor for each row of spec/opcode_table.json. -/

namespace Sys2Proof

/-! ## Named values -/

/-- Station roles (1.2). -/
inductive Role where
  | bay | pass | chamber
deriving DecidableEq, Repr, Inhabited

/-- Zone levels in rising order (R149). -/
inductive ZoneLevel where
  | normal | prealarm | alarmUnconfirmed | alarmConfirmed | countdown | released
deriving DecidableEq, Repr, Inhabited

/-- Causes of the zone level, and of an ALARM frame (R149, R18). -/
inductive ZoneCause where
  | heat | spark | gas | flame | electrical | peer
deriving DecidableEq, Repr, Inhabited

/-- Atmosphere states (chapter 7, R128). -/
inductive AtmState where
  | opened | purging | inert | watch | trip
deriving DecidableEq, Repr, Inhabited

/-- Supply states (R139). -/
inductive Supply where
  | primary | reserve
deriving DecidableEq, Repr, Inhabited

/-- Reasons of an unheard list entry (R36, R18). -/
inductive UnheardReason where
  | silent | skipping | unadmitted | clash
deriving DecidableEq, Repr, Inhabited

/-- Reasons of a REFUSE (R18). -/
inductive RefusalReason where
  | full | alarm | budget | role | quarantine | duplicate | notAdmitted | atmosphere
deriving DecidableEq, Repr, Inhabited

/-- Reasons of a CANCEL (R18). -/
inductive CancelReason where
  | abort | alarm | lapsed | disputed | peerRestart
deriving DecidableEq, Repr, Inhabited

/-- Outcomes of a history entry (R57, R18). -/
inductive HistoryOutcome where
  | admitted | discharged | passed | fed | faulted
deriving DecidableEq, Repr, Inhabited

/-- The residual basis (R121). -/
inductive Basis where
  | voltage | counted
deriving DecidableEq, Repr, Inhabited

/-- Admission modes (R21). -/
inductive AdmissionMode where
  | opened | listed | closed
deriving DecidableEq, Repr, Inhabited

/-- Detector kinds (R44). `absent` is the kind NONE. -/
inductive DetectorKind where
  | heat | gas | spark | flame | absent
deriving DecidableEq, Repr, Inhabited

/-- Sources of the DIVERT channel (R46). -/
inductive DivertSource where
  | alwaysFalse | alwaysTrue | digital1 | digital2 | digital3 | digital4
  | destinationSilent | destinationRefusing
deriving DecidableEq, Repr, Inhabited

/-! ## Pack data -/

/-- The quarantine marks of a pack: a set, one membership flag for each mark (R57). -/
structure Marks where
  damaged : Bool := false
  voltage : Bool := false
  polarity : Bool := false
  stubborn : Bool := false
  hot : Bool := false
  isolation : Bool := false
  untracked : Bool := false
  disputed : Bool := false
deriving DecidableEq, Repr, Inhabited

/-- One history entry: a station and an outcome (R57). -/
structure HistoryEntry where
  station : Nat
  outcome : HistoryOutcome
deriving DecidableEq, Repr, Inhabited

/-- The fields of a pack record that an OFFER carries: the pack record block (R18, R57, R65). -/
structure PackData where
  chemistry : Nat := 0
  cells : Nat := 1
  eNom : Nat := 1
  eDecl : Option Nat := none
  iPack : Nat := 1
  grade : Nat := 0
  eDis : Nat := 0
  eDisRem : Nat := 0
  residual : Option Nat := none
  basis : Basis := .voltage
  rounds : Nat := 0
  marks : Marks := {}
  history : List HistoryEntry := []
deriving DecidableEq, Repr, Inhabited

/-! ## Frames (R18) -/

/-- One entry of an unheard list. -/
structure UnheardEntry where
  reason : UnheardReason
  station : Nat
deriving DecidableEq, Repr, Inhabited

/-- A STATE frame: its sending station and its payload fields. Stations and zones are held as their numbers. -/
structure StateFrame where
  station : Nat
  role : Role := .bay
  zone : Nat := 1
  level : ZoneLevel := .normal
  periodCode : Nat := 2
  epoch : Nat := 0
  sequence : Nat := 0
  strict : Bool := false
  testFlag : Bool := false
  supply : Supply := .primary
  healthy : Nat := 0
  atmosphere : AtmState := .opened
  allowance : Nat := 0
  freePlaces : Nat := 0
  heldCount : Nat := 0
  consumedCount : Nat := 0
  openLot : Nat := 0
  echo : Nat := 0
  overflow : Bool := false
  unheard : List UnheardEntry := []
deriving DecidableEq, Repr, Inhabited

/-- An ALARM frame. -/
structure AlarmFrame where
  station : Nat
  zone : Nat
  level : ZoneLevel
  testFlag : Bool
  cause : ZoneCause
deriving DecidableEq, Repr, Inhabited

/-- A JOIN frame. -/
structure JoinFrame where
  station : Nat
  role : Role
  zone : Nat
  periodCode : Nat
  epoch : Nat
  uniqueId : UniqueId
deriving DecidableEq, Repr, Inhabited

/-- What every handoff frame carries: sender, destination, pack ID, offer number. -/
structure HandoffHead where
  station : Nat
  destination : Nat
  packId : PackId
  offerNumber : Nat
deriving DecidableEq, Repr, Inhabited

/-- An OFFER frame. -/
structure OfferFrame where
  head : HandoffHead
  pack : PackData
deriving DecidableEq, Repr, Inhabited

/-- A GRANT frame. -/
structure GrantFrame where
  head : HandoffHead
  reservation : Nat
deriving DecidableEq, Repr, Inhabited

/-- A REFUSE frame. -/
structure RefuseFrame where
  head : HandoffHead
  reason : RefusalReason
deriving DecidableEq, Repr, Inhabited

/-- A TAKEN frame. -/
structure TakenFrame where
  head : HandoffHead
  late : Bool
deriving DecidableEq, Repr, Inhabited

/-- A CANCEL frame. -/
structure CancelFrame where
  head : HandoffHead
  reason : CancelReason
deriving DecidableEq, Repr, Inhabited

/-- A frame of class HANDOFF. -/
inductive HandoffFrame where
  | offer (f : OfferFrame)
  | grant (f : GrantFrame)
  | refuse (f : RefuseFrame)
  | taken (f : TakenFrame)
  | cancel (f : CancelFrame)
deriving DecidableEq, Repr, Inhabited

/-- Any Line Link frame. -/
inductive Frame where
  | alarm (f : AlarmFrame)
  | handoff (f : HandoffFrame)
  | state (f : StateFrame)
  | join (f : JoinFrame)
deriving DecidableEq, Repr, Inhabited

/-! ## Inputs -/

/-- The contact inputs; true while the contact is closed (R43). -/
structure Contacts where
  door : Bool := false
  abort : Bool := false
  key : Bool := false
  supplyP : Bool := false
  supplyR : Bool := false
  digital1 : Bool := false
  digital2 : Bool := false
  digital3 : Bool := false
  digital4 : Bool := false
deriving DecidableEq, Repr, Inhabited

/-- The parameters of ADMIT PACK, each as wide as the request carries it (R60, R185). -/
structure AdmitParams where
  packId : PackId
  chemistry : Byte
  cells : Byte
  eNom : BitVec 32
  eDeclPresence : Byte
  eDecl : BitVec 32
  iPack : BitVec 16
  grade : Byte
deriving DecidableEq, Repr, Inhabited

/-! ## Commands -/

/-- The commands of the ZL18: one constructor for each row of spec/opcode_table.json, in the table's order.
A request of the station port carries its tag first (R185). -/
inductive Instr where
  -- start
  | startReset
  | configurationRead (answers : List (Option (List Byte)))
  | epochWrite (reads : List (Option Byte)) (writeAcks : List Bool) (readBacks : List (Option Byte))
  | enterRunning
  -- the Line Link's transmitter
  | quietIntervalEnd
  | contentionLost (bit : Nat)
  | frameAbort (bit : Nat)
  | frameComplete
  -- the Line Link's receiver
  | framingError
  | incompleteFrame
  | malformedLength (length : Byte)
  | badFrame (bytes : List Byte)
  | stateReceived (f : StateFrame)
  | joinReceived (f : JoinFrame)
  | alarmReceived (f : AlarmFrame)
  | offerReceived (f : OfferFrame)
  | grantReceived (f : GrantFrame)
  | refuseReceived (f : RefuseFrame)
  | takenReceived (f : TakenFrame)
  | cancelReceived (f : CancelFrame)
  -- timers of the line
  | periodTimerExpiry
  | startWindowClose
  | refusalStreakQuiet (station : Nat)
  | silenceTimerExpiry (station : Nat)
  -- measurement
  | sampleSetArrival (burst : List Byte) (strayBits : Nat)
  | sampleTimerExpiry (contacts : Contacts)
  -- steps of the Discharge Engine
  | rampStep
  | settleTimeout
  | measurementLoss
  | unloadComplete
  | restCurrentFault
  | loadStuck
  | contactorCheckExpiry
  | restTimerExpiry
  -- timers of the Pack Store, the chamber and the zone
  | offerTimerExpiry (pack : PackId)
  | backOffExpiry (pack : PackId)
  | transitTimerExpiry (pack : PackId)
  | grantHoldExpiry (pack : PackId)
  | purgeTimerExpiry
  | countdownEnd
  -- the station port
  | badEnvelope (bytes : List Byte)
  | replyRead (clocked : Nat)
  | testFrame (tag : Byte)
  | readLink (tag : Byte)
  | setAdmission (tag : Byte) (mode : Byte)
  | readPeer (tag : Byte) (station : Byte)
  | readLineView (tag : Byte)
  | testChannel (tag : Byte) (channel : Byte)
  | readFilters (tag : Byte)
  | admitPack (tag : Byte) (p : AdmitParams)
  | forward (tag : Byte) (pack : PackId)
  | hold (tag : Byte) (pack : PackId)
  | arrived (tag : Byte) (pack : PackId) (upstream : Byte)
  | recover (tag : Byte) (pack : PackId)
  | remove (tag : Byte) (pack : PackId)
  | readRecord (tag : Byte) (pack : PackId)
  | readStore (tag : Byte)
  | start (tag : Byte)
  | stop (tag : Byte)
  | readEngine (tag : Byte)
  | readResidual (tag : Byte)
  | purge (tag : Byte)
  | feed (tag : Byte)
  | consumed (tag : Byte) (pack : PackId)
  | withdrawFeed (tag : Byte) (pack : PackId)
  | readAtmosphere (tag : Byte)
  | testDetector (tag : Byte) (detector : Byte)
  | strictOn (tag : Byte)
  | strictOff (tag : Byte)
  | resetZone (tag : Byte)
  | restoreZone (tag : Byte)
  | readZone (tag : Byte)
  | closeLot (tag : Byte)
  | readTally (tag : Byte)
  | readLot (tag : Byte) (lot : BitVec 16)
  | readEvents (tag : Byte)
  | setMask (tag : Byte) (kinds : BitVec 16) (channels : BitVec 16)
  | readConfigStatus (tag : Byte)
deriving DecidableEq, Repr, Inhabited

end Sys2Proof
end

