-- ==== Sys2Proof/Config.lean ====
section
/-! DEFINITION. What the configuration of a ZL18 fixes (the fields of the table of R198), the capacities of the
part (1.4), and the values the manual leaves open, as opaque constants. -/

namespace Sys2Proof

/-- One chemistry curve: nine knots (voltage in mV, fraction in per mille) and three cell voltages (R114). -/
structure Curve where
  inUse : Bool := false
  knots : List (Nat × Nat) := []
  cellMin : Nat := 0
  cellMax : Nat := 0
  endVoltage : Nat := 0
deriving DecidableEq, Repr, Inhabited

/-- The filter settings of one channel (R197). -/
structure ChannelSettings where
  invert : Bool := false
  enabled : Bool := false
  countA : Nat := 0
  countB : Nat := 0
deriving DecidableEq, Repr, Inhabited

/-- The configuration, field by field in the order of the table of R198. The default values are those of a part
that has taken no configuration yet; nothing reads them (log entry 2). -/
structure Settings where
  station : Nat := 0
  role : Role := .bay
  zone : Nat := 0
  periodCode : Nat := 0
  admissionMode : AdmissionMode := .opened
  allowList : List UniqueId := []
  defaultDestination : Option Nat := none
  alternateDestination : Option Nat := none
  quarantineDestination : Option Nat := none
  curves : Vector Curve 4 := Vector.replicate 4 {}
  iBay : Nat := 0
  stepCurrent : Nat := 0
  rampInterval : Nat := 0
  settleCount : Nat := 0
  settleTimeout : Nat := 0
  restTime : Nat := 0
  releaseLimit : Nat := 0
  releaseCellVoltage : Nat := 0
  zeroThreshold : Nat := 0
  maxPackEnergy : Nat := 0
  energyLimit : Nat := 0
  derateTemp : Int := 0
  stopTemp : Int := 0
  o2Good : Nat := 0
  o2Watch : Nat := 0
  o2Trip : Nat := 0
  disagreeLimit : Nat := 0
  purgeMax : Nat := 0
  grantHold : Nat := 0
  releaseDelay : Nat := 0
  suppressionOwned : Bool := false
  revert : Bool := false
  detectorKinds : Vector DetectorKind 4 := Vector.replicate 4 .absent
  thresholds : Vector Nat 4 := Vector.replicate 4 0
  channels : Sixteen ChannelSettings := Vector.replicate 16 {}
  divertSource : DivertSource := .alwaysFalse
  kindMasks : Sixteen Bool := Vector.replicate 16 false
  channelMasks : Sixteen Bool := Vector.replicate 16 false
deriving DecidableEq, Repr, Inhabited

/-- The fields of the configuration by name, in the table's order, for the failing field (R198, R202). -/
inductive ConfigField where
  | station | role | zone | periodCode | admissionMode | allowList
  | defaultDestination | alternateDestination | quarantineDestination
  | curve | iBay | stepCurrent | rampInterval | settleCount | settleTimeout | restTime
  | releaseLimit | releaseCellVoltage | zeroThreshold | maxPackEnergy | energyLimit
  | derateTemp | stopTemp | o2Good | o2Watch | o2Trip | disagreeLimit
  | purgeMax | grantHold | releaseDelay | suppressionOwned | revert
  | detectorKind | threshold | filterSettings | divertSource | kindMasks | channelMasks
deriving DecidableEq, Repr, Inhabited

/-- The factory identity of the part: implementation-defined, so a constant nothing can evaluate (log entry 6). -/
opaque Config.factoryId : UniqueId

/-- The figure READ ATMOSPHERE gives for the seconds left on a running purge timer before it is bounded by the
loaded time: no rule relates it to the commands, so it is free, drawn afresh at each reading (R148, log entry 7). -/
opaque Config.freePurgeSeconds : Nat → Nat

end Sys2Proof
end

