-- ==== Sys2Proof/Machine/Codec.lean ====
section
/-! DEFINITION. The Line Link's encodings: bytes and bit times (R1), the frame check (R8), the codes, ranges and
layouts of every frame (R18), the bytes a frame is sent as, and the receipt of R9. -/

namespace Sys2Proof.Machine

open Sys2Proof

/-! ## Bytes -/

/-- `k` bytes of a quantity, most significant byte first (2.8, R185). -/
def beBytes : Nat → Nat → List Byte
  | 0, _ => []
  | k + 1, v => BitVec.ofNat 8 (v / 256 ^ k) :: beBytes k v

/-- The quantity that a list of bytes holds, most significant byte first. -/
def beNat (bs : List Byte) : Nat := bs.foldl (fun a b => a * 256 + b.toNat) 0

/-- The quantity in the `k` bytes that begin at place `at'` of a list. -/
def field (bs : List Byte) (at' k : Nat) : Nat := beNat ((bs.drop at').take k)

/-- The bits of a byte, most significant first. -/
def byteBits (b : Byte) : List Bool :=
  [b.getLsbD 7, b.getLsbD 6, b.getLsbD 5, b.getLsbD 4, b.getLsbD 3, b.getLsbD 2, b.getLsbD 1, b.getLsbD 0]

/-- The bit times a list of bytes takes on the line: a start bit (dominant), eight data bits, a stop bit
(recessive); `true` is recessive, the level of a 1 bit (R1). -/
def lineBits (bs : List Byte) : List Bool := bs.flatMap (fun b => false :: (byteBits b ++ [true]))

/-- Whether a bit time of a frame is one of the seven key bits: the data bits 7 to 1 of the first byte (R4). -/
def isKeyBit (bit : Nat) : Bool := decide (1 ≤ bit ∧ bit ≤ 7)

/-! ## The check (R8) -/

/-- One bit taken into the check register. -/
def checkBit (reg : Check) (bit : Bool) : Check :=
  if bit != reg.msb then (reg <<< 1) ^^^ 0x8005#16 else reg <<< 1

/-- The check over a list of bytes: preset to all ones, each byte most significant bit first. -/
def frameCheck (bs : List Byte) : Check := (bs.flatMap byteBits).foldl checkBit 0xFFFF#16

/-! ## Codes (R18, Code Values) -/

/-- A bit as a number. -/
def bitNat (b : Bool) : Nat := if b then 1 else 0

def roleCode : Role → Nat
  | .bay => 0 | .pass => 1 | .chamber => 2
def roleOf : Nat → Option Role
  | 0 => some .bay | 1 => some .pass | 2 => some .chamber | _ => none

def levelCode : ZoneLevel → Nat
  | .normal => 0 | .prealarm => 1 | .alarmUnconfirmed => 2 | .alarmConfirmed => 3 | .countdown => 4 | .released => 5
def levelOf : Nat → Option ZoneLevel
  | 0 => some .normal | 1 => some .prealarm | 2 => some .alarmUnconfirmed | 3 => some .alarmConfirmed
  | 4 => some .countdown | 5 => some .released | _ => none

def atmCode : AtmState → Nat
  | .opened => 0 | .purging => 1 | .inert => 2 | .watch => 3 | .trip => 4
def atmOf : Nat → Option AtmState
  | 0 => some .opened | 1 => some .purging | 2 => some .inert | 3 => some .watch | 4 => some .trip | _ => none

def supplyCode : Supply → Nat
  | .primary => 0 | .reserve => 1
def supplyOf : Nat → Supply
  | 0 => .primary | _ => .reserve

def unheardCode : UnheardReason → Nat
  | .silent => 0 | .skipping => 1 | .unadmitted => 2 | .clash => 3
def unheardOf : Nat → Option UnheardReason
  | 0 => some .silent | 1 => some .skipping | 2 => some .unadmitted | 3 => some .clash | _ => none

def causeCode : ZoneCause → Nat
  | .heat => 0 | .spark => 1 | .gas => 2 | .flame => 3 | .electrical => 4 | .peer => 5
def causeOf : Nat → Option ZoneCause
  | 0 => some .heat | 1 => some .spark | 2 => some .gas | 3 => some .flame | 4 => some .electrical
  | 5 => some .peer | _ => none

def refusalCode : RefusalReason → Nat
  | .full => 0 | .alarm => 1 | .budget => 2 | .role => 3 | .quarantine => 4 | .duplicate => 5
  | .notAdmitted => 6 | .atmosphere => 7
def refusalOf : Nat → Option RefusalReason
  | 0 => some .full | 1 => some .alarm | 2 => some .budget | 3 => some .role | 4 => some .quarantine
  | 5 => some .duplicate | 6 => some .notAdmitted | 7 => some .atmosphere | _ => none

def cancelCode : CancelReason → Nat
  | .abort => 0 | .alarm => 1 | .lapsed => 2 | .disputed => 3 | .peerRestart => 4
def cancelOf : Nat → Option CancelReason
  | 0 => some .abort | 1 => some .alarm | 2 => some .lapsed | 3 => some .disputed | 4 => some .peerRestart
  | _ => none

def outcomeCode : HistoryOutcome → Nat
  | .admitted => 0 | .discharged => 1 | .passed => 2 | .fed => 3 | .faulted => 4
def outcomeOf : Nat → Option HistoryOutcome
  | 0 => some .admitted | 1 => some .discharged | 2 => some .passed | 3 => some .fed | 4 => some .faulted
  | _ => none

def basisCode : Basis → Nat
  | .voltage => 0 | .counted => 1
def basisOf : Nat → Basis
  | 0 => .voltage | _ => .counted

/-- The quarantine marks as one byte: bit 0 DAMAGED to bit 7 DISPUTED. -/
def marksCode (m : Marks) : Nat :=
  bitNat m.damaged + 2 * bitNat m.voltage + 4 * bitNat m.polarity + 8 * bitNat m.stubborn + 16 * bitNat m.hot
    + 32 * bitNat m.isolation + 64 * bitNat m.untracked + 128 * bitNat m.disputed

/-- Bit `i` of a number. -/
def natBit (v i : Nat) : Bool := decide (v / 2 ^ i % 2 = 1)

/-- The marks that a byte holds. -/
def marksOf (v : Nat) : Marks :=
  { damaged := natBit v 0, voltage := natBit v 1, polarity := natBit v 2, stubborn := natBit v 3, hot := natBit v 4,
    isolation := natBit v 5, untracked := natBit v 6, disputed := natBit v 7 }

/-! ## Ranges (R9, R18) -/

/-- A station number, 1 to 31. -/
def stationOk (n : Nat) : Bool := decide (1 ≤ n ∧ n ≤ 31)

/-- A zone, 1 to 8. -/
def zoneOk (n : Nat) : Bool := decide (1 ≤ n ∧ n ≤ 8)

/-- A period code, 2 to 20. -/
def periodOk (n : Nat) : Bool := decide (2 ≤ n ∧ n ≤ 20)

/-- A quantity that `k` bytes hold. -/
def fitsBytes (k n : Nat) : Bool := decide (n < 256 ^ k)

/-- Station order strictly increasing, as the unheard list must be (R18). -/
def increasing : List UnheardEntry → Bool
  | [] => true
  | [_] => true
  | a :: b :: rest => decide (a.station < b.station) && increasing (b :: rest)

/-- Every field of a STATE lies within its range. -/
def stateOk (f : StateFrame) : Bool :=
  stationOk f.station && zoneOk f.zone && periodOk f.periodCode && fitsBytes 1 f.epoch && decide (f.sequence ≤ 15)
    && decide (f.healthy ≤ 4) && fitsBytes 4 f.allowance && decide (f.freePlaces ≤ 8) && fitsBytes 1 f.heldCount
    && fitsBytes 2 f.consumedCount && fitsBytes 2 f.openLot && fitsBytes 1 f.echo && decide (f.unheard.length ≤ 8)
    && f.unheard.all (fun e => stationOk e.station) && increasing f.unheard

/-- Every field of an ALARM lies within its range. -/
def alarmOk (f : AlarmFrame) : Bool := stationOk f.station && zoneOk f.zone

/-- Every field of a JOIN lies within its range. -/
def joinOk (f : JoinFrame) : Bool :=
  stationOk f.station && zoneOk f.zone && periodOk f.periodCode && fitsBytes 1 f.epoch

/-- Every field common to the handoff frames lies within its range. -/
def headOk (h : HandoffHead) : Bool := stationOk h.station && stationOk h.destination && fitsBytes 1 h.offerNumber

/-- Every field of a pack record block lies within its range. E_decl and R have no bound against E_nom here; R126
clamps them. -/
def packOk (p : PackData) : Bool :=
  decide (p.chemistry ≤ 3) && decide (p.grade ≤ 3) && decide (1 ≤ p.cells ∧ p.cells ≤ 240)
    && decide (1 ≤ p.eNom) && fitsBytes 4 p.eNom && p.eDecl.all (fitsBytes 4) && decide (1 ≤ p.iPack ∧ p.iPack ≤ 40000)
    && fitsBytes 4 p.eDis && decide (p.eDisRem ≤ 999999) && p.residual.all (fitsBytes 4) && decide (p.rounds ≤ 4)
    && decide (p.history.length ≤ 6) && p.history.all (fun e => stationOk e.station)

/-- Every field of a handoff frame lies within its range. -/
def handoffOk : HandoffFrame → Bool
  | .offer f => headOk f.head && packOk f.pack
  | .grant f => headOk f.head && fitsBytes 1 f.reservation
  | .refuse f => headOk f.head
  | .taken f => headOk f.head
  | .cancel f => headOk f.head

/-- Every field of a frame lies within the ranges that R9 applies. -/
def frameOk : Frame → Bool
  | .alarm f => alarmOk f
  | .handoff f => handoffOk f
  | .state f => stateOk f
  | .join f => joinOk f

/-! ## Frames as bytes (R2, R18) -/

/-- The fields every handoff frame carries. -/
def handoffHead : HandoffFrame → HandoffHead
  | .offer f => f.head
  | .grant f => f.head
  | .refuse f => f.head
  | .taken f => f.head
  | .cancel f => f.head

/-- The sending station of a frame. -/
def frameStation : Frame → Nat
  | .alarm f => f.station
  | .handoff f => (handoffHead f).station
  | .state f => f.station
  | .join f => f.station

/-- The class of a frame, the upper two bits of its key. -/
def frameClass : Frame → Nat
  | .alarm _ => 0
  | .handoff _ => 1
  | .state _ => 2
  | .join _ => 3

/-- The kind code of a frame. -/
def frameKind : Frame → Nat
  | .alarm _ => 0
  | .handoff (.offer _) => 1
  | .handoff (.grant _) => 2
  | .handoff (.refuse _) => 3
  | .handoff (.taken _) => 4
  | .handoff (.cancel _) => 5
  | .state _ => 6
  | .join _ => 7

/-- The class of a kind code. -/
def kindClass (kind : Nat) : Nat :=
  if kind = 0 then 0 else if kind ≤ 5 then 1 else if kind = 6 then 2 else 3

/-- P0 of a STATE or a JOIN, above its low three bits: role and zone. -/
def roleZone (r : Role) (zone : Nat) : Nat := roleCode r * 64 + (zone - 1) * 8

/-- The payload of a STATE. -/
def statePayload (f : StateFrame) : List Byte :=
  beBytes 1 (roleZone f.role f.zone + levelCode f.level) ++ beBytes 1 f.periodCode ++ beBytes 1 f.epoch
    ++ beBytes 1 (f.sequence * 16 + bitNat f.strict * 8 + bitNat f.testFlag * 4 + supplyCode f.supply * 2)
    ++ beBytes 1 (f.healthy * 32 + atmCode f.atmosphere * 4) ++ beBytes 4 f.allowance ++ beBytes 1 f.freePlaces
    ++ beBytes 1 f.heldCount ++ beBytes 2 f.consumedCount ++ beBytes 2 f.openLot ++ beBytes 1 f.echo
    ++ beBytes 1 (bitNat f.overflow * 128 + f.unheard.length)
    ++ f.unheard.flatMap (fun e => beBytes 1 (unheardCode e.reason * 32 + e.station))

/-- The payload of an ALARM. -/
def alarmPayload (f : AlarmFrame) : List Byte :=
  beBytes 1 (bitNat f.testFlag * 128 + (f.zone - 1) * 8 + levelCode f.level) ++ beBytes 1 (causeCode f.cause)
    ++ beBytes 1 0

/-- The payload of a JOIN. -/
def joinPayload (f : JoinFrame) : List Byte :=
  beBytes 1 (roleZone f.role f.zone) ++ beBytes 1 f.periodCode ++ beBytes 1 f.epoch ++ beBytes 8 f.uniqueId.toNat

/-- P0 to P7 of a handoff frame. -/
def headPayload (h : HandoffHead) : List Byte :=
  beBytes 1 h.destination ++ beBytes 6 h.packId.toNat ++ beBytes 1 h.offerNumber

/-- The pack record block of an OFFER; an absent optional field is sent as zero. -/
def packBlock (p : PackData) : List Byte :=
  beBytes 1 (p.chemistry * 64 + p.grade * 16 + basisCode p.basis * 8 + bitNat p.eDecl.isSome * 4
      + bitNat p.residual.isSome * 2)
    ++ beBytes 1 p.cells ++ beBytes 4 p.eNom ++ beBytes 4 (p.eDecl.getD 0) ++ beBytes 2 p.iPack ++ beBytes 4 p.eDis
    ++ beBytes 3 p.eDisRem ++ beBytes 4 (p.residual.getD 0) ++ beBytes 1 (p.history.length * 16 + p.rounds)
    ++ beBytes 1 (marksCode p.marks) ++ p.history.flatMap (fun e => beBytes 1 (e.station * 8 + outcomeCode e.outcome))

/-- The payload of a handoff frame. -/
def handoffPayload : HandoffFrame → List Byte
  | .offer f => headPayload f.head ++ packBlock f.pack
  | .grant f => headPayload f.head ++ beBytes 1 f.reservation
  | .refuse f => headPayload f.head ++ beBytes 1 (refusalCode f.reason)
  | .taken f => headPayload f.head ++ beBytes 1 (bitNat f.late)
  | .cancel f => headPayload f.head ++ beBytes 1 (cancelCode f.reason)

/-- The payload of any frame. -/
def framePayload : Frame → List Byte
  | .alarm f => alarmPayload f
  | .handoff f => handoffPayload f
  | .state f => statePayload f
  | .join f => joinPayload f

/-- The bytes of a frame that its check covers: header and payload. -/
def frameBody (f : Frame) : List Byte :=
  beBytes 1 (frameClass f * 64 + frameStation f * 2) ++ beBytes 1 (frameKind f)
    ++ beBytes 1 ((framePayload f).length + 5) ++ framePayload f

/-- The bytes a frame is sent as: body and check, the check complemented under the test frame request (R8, R16). -/
def frameBytes (f : Frame) (complement : Bool) : List Byte :=
  frameBody f ++ beBytes 2 (if complement then ~~~ frameCheck (frameBody f) else frameCheck (frameBody f)).toNat

/-! ## Receipt (R9) -/

/-- The unheard list that the bytes from P17 on hold; bit 7 of an entry is not examined. -/
def readUnheard : List Byte → Option (List UnheardEntry)
  | [] => some []
  | b :: bs =>
    match unheardOf (b.toNat / 32 % 4), readUnheard bs with
    | some r, some rest => some ({ reason := r, station := b.toNat % 32 } :: rest)
    | _, _ => none

/-- The history that the bytes from Q25 on hold. -/
def readHistory : List Byte → Option (List HistoryEntry)
  | [] => some []
  | b :: bs =>
    match outcomeOf (b.toNat % 8), readHistory bs with
    | some o, some rest => some ({ station := b.toNat / 8, outcome := o } :: rest)
    | _, _ => none

/-- The STATE that a payload holds. -/
def readState (station : Nat) (p : List Byte) : Option Frame :=
  match roleOf (field p 0 1 / 64), levelOf (field p 0 1 % 8), atmOf (field p 4 1 / 4 % 8),
      readUnheard (p.drop 17) with
  | some role, some level, some atm, some unheard =>
    if p.length = 17 + field p 16 1 % 16 then
      some (.state
        { station := station, role := role, zone := field p 0 1 / 8 % 8 + 1, level := level,
          periodCode := field p 1 1, epoch := field p 2 1, sequence := field p 3 1 / 16, strict := natBit (field p 3 1) 3,
          testFlag := natBit (field p 3 1) 2, supply := supplyOf (field p 3 1 / 2 % 2), healthy := field p 4 1 / 32,
          atmosphere := atm, allowance := field p 5 4, freePlaces := field p 9 1, heldCount := field p 10 1,
          consumedCount := field p 11 2, openLot := field p 13 2, echo := field p 15 1,
          overflow := natBit (field p 16 1) 7, unheard := unheard })
    else none
  | _, _, _, _ => none

/-- The ALARM that a payload holds. -/
def readAlarm (station : Nat) (p : List Byte) : Option Frame :=
  match levelOf (field p 0 1 % 8), causeOf (field p 1 1) with
  | some level, some cause =>
    if p.length = 3 then
      some (.alarm
        { station := station, zone := field p 0 1 / 8 % 8 + 1, level := level,
          testFlag := natBit (field p 0 1) 7, cause := cause })
    else none
  | _, _ => none

/-- The JOIN that a payload holds. -/
def readJoin (station : Nat) (p : List Byte) : Option Frame :=
  match roleOf (field p 0 1 / 64) with
  | some role =>
    if p.length = 11 then
      some (.join
        { station := station, role := role, zone := field p 0 1 / 8 % 8 + 1, periodCode := field p 1 1,
          epoch := field p 2 1, uniqueId := BitVec.ofNat 64 (field p 3 8) })
    else none
  | none => none

/-- The fields common to the handoff frames that a payload holds; bits 7 to 5 of P0 are not examined. -/
def readHead (station : Nat) (p : List Byte) : HandoffHead :=
  { station := station, destination := field p 0 1 % 32, packId := BitVec.ofNat 48 (field p 1 6),
    offerNumber := field p 7 1 }

/-- The pack record block that the bytes from Q0 on hold. -/
def readPack (q : List Byte) : Option PackData :=
  match readHistory (q.drop 25) with
  | some history =>
    if q.length = 25 + field q 23 1 / 16 % 8 then
      some
        { chemistry := field q 0 1 / 64, grade := field q 0 1 / 16 % 4, basis := basisOf (field q 0 1 / 8 % 2),
          cells := field q 1 1, eNom := field q 2 4,
          eDecl := if natBit (field q 0 1) 2 then some (field q 6 4) else none, iPack := field q 10 2,
          eDis := field q 12 4, eDisRem := field q 16 3,
          residual := if natBit (field q 0 1) 1 then some (field q 19 4) else none,
          rounds := field q 23 1 % 8, marks := marksOf (field q 24 1), history := history }
    else none
  | none => none

/-- The handoff frame that a payload holds, by its kind code. -/
def readHandoff (kind station : Nat) (p : List Byte) : Option Frame :=
  let head := readHead station p
  if kind = 1 then (readPack (p.drop 8)).map (fun d => .handoff (.offer { head := head, pack := d }))
  else if p.length ≠ 9 then none
  else if kind = 2 then some (.handoff (.grant { head := head, reservation := field p 8 1 }))
  else if kind = 3 then
    (refusalOf (field p 8 1)).map (fun r => .handoff (.refuse { head := head, reason := r }))
  else if kind = 4 then
    if field p 8 1 ≤ 1 then some (.handoff (.taken { head := head, late := decide (field p 8 1 = 1) })) else none
  else (cancelOf (field p 8 1)).map (fun r => .handoff (.cancel { head := head, reason := r }))

/-- The frame of kind `kind` that a payload holds. -/
def readPayload (kind station : Nat) (p : List Byte) : Option Frame :=
  if kind = 0 then readAlarm station p
  else if kind ≤ 5 then readHandoff kind station p
  else if kind = 6 then readState station p
  else if kind = 7 then readJoin station p
  else none

/-- The receipt of R9: the frame that a complete run of bytes is, or none where it fails. -/
def receipt (bs : List Byte) : Option Frame :=
  let n := bs.length
  let key := field bs 0 1
  let kind := field bs 1 1
  if 8 ≤ n ∧ n ≤ 72 ∧ field bs 2 1 = n ∧ key % 2 = 0 ∧ kind ≤ 7 ∧ key / 64 = kindClass kind
      ∧ field bs (n - 2) 2 = (frameCheck (bs.take (n - 2))).toNat then
    match readPayload kind (key / 2 % 32) ((bs.take (n - 2)).drop 3) with
    | some f => if frameOk f then some f else none
    | none => none
  else none

end Sys2Proof.Machine
end

