-- ==== Sys2Proof/Machine/Envelope.lean ====
section
/-! DEFINITION. The request envelope of the station port: request codes and lengths (R185), the envelope sum, the
judgement of what a transfer clocked in (R186), and the request that a good envelope spells. -/

namespace Sys2Proof.Machine

open Sys2Proof

/-- The sum of a list of bytes, modulo 256. -/
def byteTotal (bs : List Byte) : Byte := bs.foldl (· + ·) 0

/-- The sum byte that brings an envelope's total to 0 (R185). -/
def sumByte (bs : List Byte) : Byte := 0 - byteTotal bs

/-- The bytes of parameters that a request code carries; none where the code names no request (R185, R190). -/
def parameterBytes (code : Nat) : Option Nat :=
  if code = 0 ∨ 36 < code then none
  else if code = 3 ∨ code = 4 ∨ code = 6 ∨ code = 25 then some 1
  else if code = 8 then some 20
  else if code = 9 ∨ code = 10 ∨ code = 12 ∨ code = 13 ∨ code = 14 ∨ code = 22 ∨ code = 23 then some 6
  else if code = 11 then some 7
  else if code = 33 then some 2
  else if code = 35 then some 4
  else some 0

/-- What R186 finds of the bytes that a transfer clocked in. -/
inductive Verdict where
  | nothing
  | length | sum | code
  | good
deriving DecidableEq, Repr, Inhabited

/-- The judgement of a transfer: no bytes or a first byte 0 carry no request; else the first of four tests that fails
decides (R186). -/
def judgeEnvelope (bs : List Byte) : Verdict :=
  let n := field bs 0 1
  if bs = [] ∨ n = 0 then .nothing
  else if ¬(4 ≤ n ∧ n ≤ 64 ∧ n ≤ bs.length) then .length
  else if byteTotal (bs.take n) ≠ 0 then .sum
  else match parameterBytes (field bs 1 1) with
    | none => .code
    | some k => if n = k + 4 then .good else .length

/-- The code, the tag and the parameters of a request (R185); none for a command that is no request. -/
def requestParts : Instr → Option (Nat × Byte × List Byte)
  | .testFrame t => some (1, t, [])
  | .readLink t => some (2, t, [])
  | .setAdmission t m => some (3, t, [m])
  | .readPeer t n => some (4, t, [n])
  | .readLineView t => some (5, t, [])
  | .testChannel t c => some (6, t, [c])
  | .readFilters t => some (7, t, [])
  | .admitPack t p =>
    some (8, t, beBytes 6 p.packId.toNat ++ [p.chemistry, p.cells] ++ beBytes 4 p.eNom.toNat ++ [p.eDeclPresence]
      ++ beBytes 4 p.eDecl.toNat ++ beBytes 2 p.iPack.toNat ++ [p.grade])
  | .forward t i => some (9, t, beBytes 6 i.toNat)
  | .hold t i => some (10, t, beBytes 6 i.toNat)
  | .arrived t i u => some (11, t, beBytes 6 i.toNat ++ [u])
  | .recover t i => some (12, t, beBytes 6 i.toNat)
  | .remove t i => some (13, t, beBytes 6 i.toNat)
  | .readRecord t i => some (14, t, beBytes 6 i.toNat)
  | .readStore t => some (15, t, [])
  | .start t => some (16, t, [])
  | .stop t => some (17, t, [])
  | .readEngine t => some (18, t, [])
  | .readResidual t => some (19, t, [])
  | .purge t => some (20, t, [])
  | .feed t => some (21, t, [])
  | .consumed t i => some (22, t, beBytes 6 i.toNat)
  | .withdrawFeed t i => some (23, t, beBytes 6 i.toNat)
  | .readAtmosphere t => some (24, t, [])
  | .testDetector t n => some (25, t, [n])
  | .strictOn t => some (26, t, [])
  | .strictOff t => some (27, t, [])
  | .resetZone t => some (28, t, [])
  | .restoreZone t => some (29, t, [])
  | .readZone t => some (30, t, [])
  | .closeLot t => some (31, t, [])
  | .readTally t => some (32, t, [])
  | .readLot t n => some (33, t, beBytes 2 n.toNat)
  | .readEvents t => some (34, t, [])
  | .setMask t k c => some (35, t, beBytes 2 k.toNat ++ beBytes 2 c.toNat)
  | .readConfigStatus t => some (36, t, [])
  | .startReset => none
  | .configurationRead _ => none
  | .epochWrite _ _ _ => none
  | .enterRunning => none
  | .quietIntervalEnd => none
  | .contentionLost _ => none
  | .frameAbort _ => none
  | .frameComplete => none
  | .framingError => none
  | .incompleteFrame => none
  | .malformedLength _ => none
  | .badFrame _ => none
  | .stateReceived _ => none
  | .joinReceived _ => none
  | .alarmReceived _ => none
  | .offerReceived _ => none
  | .grantReceived _ => none
  | .refuseReceived _ => none
  | .takenReceived _ => none
  | .cancelReceived _ => none
  | .periodTimerExpiry => none
  | .startWindowClose => none
  | .refusalStreakQuiet _ => none
  | .silenceTimerExpiry _ => none
  | .sampleSetArrival _ _ => none
  | .sampleTimerExpiry _ => none
  | .rampStep => none
  | .settleTimeout => none
  | .measurementLoss => none
  | .unloadComplete => none
  | .restCurrentFault => none
  | .loadStuck => none
  | .contactorCheckExpiry => none
  | .restTimerExpiry => none
  | .offerTimerExpiry _ => none
  | .backOffExpiry _ => none
  | .transitTimerExpiry _ => none
  | .grantHoldExpiry _ => none
  | .purgeTimerExpiry => none
  | .countdownEnd => none
  | .badEnvelope _ => none
  | .replyRead _ => none

/-- The envelope of a request: length, code, tag, parameters, sum (11.1, R185). -/
def requestEnvelope (i : Instr) : Option (List Byte) :=
  (requestParts i).map (fun x =>
    let body := [BitVec.ofNat 8 (x.2.2.length + 4), BitVec.ofNat 8 x.1, x.2.1] ++ x.2.2
    body ++ [sumByte body])

/-- The pack ID that stands first in a list of parameters. -/
def packIdAt (ps : List Byte) : PackId := BitVec.ofNat 48 (field ps 0 6)

/-- The parameters of ADMIT PACK. -/
def admitParamsAt (ps : List Byte) : AdmitParams :=
  { packId := packIdAt ps, chemistry := ps.getD 6 0, cells := ps.getD 7 0, eNom := BitVec.ofNat 32 (field ps 8 4),
    eDeclPresence := ps.getD 12 0, eDecl := BitVec.ofNat 32 (field ps 13 4), iPack := BitVec.ofNat 16 (field ps 17 2),
    grade := ps.getD 19 0 }

/-- The request that a code, a tag and the parameters spell (R185). -/
def requestOf (code : Nat) (t : Byte) (ps : List Byte) : Option Instr :=
  match code with
  | 1 => some (.testFrame t)
  | 2 => some (.readLink t)
  | 3 => some (.setAdmission t (ps.getD 0 0))
  | 4 => some (.readPeer t (ps.getD 0 0))
  | 5 => some (.readLineView t)
  | 6 => some (.testChannel t (ps.getD 0 0))
  | 7 => some (.readFilters t)
  | 8 => some (.admitPack t (admitParamsAt ps))
  | 9 => some (.forward t (packIdAt ps))
  | 10 => some (.hold t (packIdAt ps))
  | 11 => some (.arrived t (packIdAt ps) (ps.getD 6 0))
  | 12 => some (.recover t (packIdAt ps))
  | 13 => some (.remove t (packIdAt ps))
  | 14 => some (.readRecord t (packIdAt ps))
  | 15 => some (.readStore t)
  | 16 => some (.start t)
  | 17 => some (.stop t)
  | 18 => some (.readEngine t)
  | 19 => some (.readResidual t)
  | 20 => some (.purge t)
  | 21 => some (.feed t)
  | 22 => some (.consumed t (packIdAt ps))
  | 23 => some (.withdrawFeed t (packIdAt ps))
  | 24 => some (.readAtmosphere t)
  | 25 => some (.testDetector t (ps.getD 0 0))
  | 26 => some (.strictOn t)
  | 27 => some (.strictOff t)
  | 28 => some (.resetZone t)
  | 29 => some (.restoreZone t)
  | 30 => some (.readZone t)
  | 31 => some (.closeLot t)
  | 32 => some (.readTally t)
  | 33 => some (.readLot t (BitVec.ofNat 16 (field ps 0 2)))
  | 34 => some (.readEvents t)
  | 35 => some (.setMask t (BitVec.ofNat 16 (field ps 0 2)) (BitVec.ofNat 16 (field ps 2 2)))
  | 36 => some (.readConfigStatus t)
  | _ => none

/-- The request that the bytes of a transfer spell, where they pass R186. Bytes beyond the length are ignored. -/
def readRequest (bs : List Byte) : Option Instr :=
  if judgeEnvelope bs = .good then
    requestOf (field bs 1 1) (bs.getD 2 0) ((bs.take (field bs 0 1 - 1)).drop 3)
  else none

end Sys2Proof.Machine
end

