-- ==== Sys2Proof/Machine/State.lean ====
section
/-! DEFINITION. The state of the ZL18, block by block as 1.4 lists what each block owns, the reasons a step can
stop, and the state after start reset. State is plain data. -/

namespace Sys2Proof.Machine

open Sys2Proof

/-! ## Link Controller (chapter 2) -/

/-- The link state (R7). -/
inductive LinkState where
  | active | clashed
deriving DecidableEq, Repr, Inhabited

/-- The clash cause (R7). -/
inductive ClashCause where
  | none | aborts | selfHeard
deriving DecidableEq, Repr, Inhabited

/-- A transmission attempt in progress: the copy being sent, whether a newer frame has taken its slot meanwhile
(R13, R14), whether it was begun under the test frame request (R16), and the bytes on the line. -/
structure Attempt where
  frame : Frame
  replaced : Bool := false
  underTest : Bool := false
  wire : List Byte := []
deriving DecidableEq, Repr, Inhabited

/-- The Link Controller. -/
structure Link where
  state : LinkState := .active
  clashCause : ClashCause := .none
  alarmSlot : Option AlarmFrame := none
  stateSlot : Option StateFrame := none
  joinSlot : Option JoinFrame := none
  queue : List HandoffFrame := []
  nextSequence : Nat := 0
  ahead : Nat := 0
  receiveErrors : Nat := 0
  receiveTotal : Nat := 0
  suspicion : Nat := 0
  stateOverruns : Nat := 0
  handoffOverruns : Nat := 0
  testRequest : Bool := false
  attempt : Option Attempt := none
deriving DecidableEq, Repr, Inhabited

/-! ## Peer Table (chapter 3) -/

/-- Reasons of a refused admission (3.1). -/
inductive AdmissionRefusal where
  | notListed | periodMismatch | clash | closed
deriving DecidableEq, Repr, Inhabited

/-- The admission of a peer entry (3.1). -/
inductive Admission where
  | unknown | admitted | refused (r : AdmissionRefusal)
deriving DecidableEq, Repr, Inhabited

/-- The step state of a peer entry (3.1). -/
inductive StepState where
  | seeking | inStep | outOfStep
deriving DecidableEq, Repr, Inhabited

/-- One outcome of the window (R27). -/
inductive Arrival where
  | hit | miss
deriving DecidableEq, Repr, Inhabited

/-- The cause of the newest outcome (3.1). -/
inductive ArrivalCause where
  | sequence | silence
deriving DecidableEq, Repr, Inhabited

/-- The published values of a peer (3.1). -/
structure Published where
  level : ZoneLevel := .normal
  testFlag : Bool := false
  strict : Bool := false
  healthy : Nat := 0
  atmosphere : AtmState := .opened
  supply : Supply := .primary
  allowance : Nat := 0
  freePlaces : Nat := 0
  heldCount : Nat := 0
  consumedCount : Nat := 0
  openLot : Nat := 0
  echo : Nat := 0
  unheard : List UnheardEntry := []
  overflow : Bool := false
deriving DecidableEq, Repr, Inhabited

/-- A peer entry; the defaults are its values at start reset (R19). A timer is `none` while stopped and holds the
interval it was last loaded with while it runs: the silence timer in halves of P. -/
structure PeerEntry where
  admission : Admission := .unknown
  recordedId : Option UniqueId := none
  recordedRole : Option Role := none
  recordedZone : Option Nat := none
  recordedPeriod : Option Nat := none
  recordedEpoch : Option Nat := none
  clashFlag : Bool := false
  step : StepState := .seeking
  window : List Arrival := []
  newestCause : Option ArrivalCause := none
  lastSequence : Option Nat := none
  published : Option Published := none
  silenceTimer : Option Nat := none
  heard : Bool := false
  discards : Nat := 0
  streak : Nat := 0
deriving DecidableEq, Repr, Inhabited

/-- Reasons of the peer change note (R39). -/
inductive PeerNoteReason where
  | admitted | refused (r : AdmissionRefusal) | restart | clashListed | linkClashed | epochWrite
deriving DecidableEq, Repr, Inhabited

/-- The peer change note (R39). -/
structure PeerNote where
  reason : PeerNoteReason
  station : Nat
deriving DecidableEq, Repr, Inhabited

/-- The Peer Table. The echo buckets stand newest first. -/
structure PeerTable where
  entries : Stations PeerEntry := Vector.replicate 31 {}
  mode : AdmissionMode := .opened
  periodTimer : Bool := false
  periodCount : Nat := 0
  windowOpen : Bool := true
  joinLimit : Bool := false
  notHeardLimit : Bool := false
  clashListedLimit : Bool := false
  echo : List Nat := List.replicate 8 0
  holdOff : Nat := 0
  note : Option PeerNote := none
deriving DecidableEq, Repr, Inhabited

/-! ## Filter Bank (chapter 4) -/

/-- The filter state of a channel, with the count of ASSERTING and CLEARING (4.3). -/
inductive FilterPhase where
  | clear | asserting (count : Nat) | set | clearing (count : Nat)
deriving DecidableEq, Repr, Inhabited

/-- One filter channel; the output follows from the filter state (4.3). The spec gives the kept inputs no start value: both
start false (DESIGN CHOICE, log entry 45). -/
structure Channel where
  phase : FilterPhase := .clear
  unforced : Bool := false
  input : Bool := false
  mark : Bool := false
  force : Bool := false
  flag : Bool := false
deriving DecidableEq, Repr, Inhabited

/-- A sample set; `none` is the fault marker (R41). -/
structure SampleSet where
  v : Option Int := none
  i : Option Int := none
  t : Option Int := none
  o2A : Option Nat := none
  o2B : Option Nat := none
  an1 : Option Nat := none
  an2 : Option Nat := none
  an3 : Option Nat := none
  an4 : Option Nat := none
deriving DecidableEq, Repr, Inhabited

/-- The Filter Bank. The spec gives the detectors' fault status no start value: none starts in FAULT (DESIGN CHOICE, log
entry 45). -/
structure FilterBank where
  sampleTimer : Bool := false
  missing : Nat := 0
  current : Option SampleSet := none
  arrived : Option SampleSet := none
  contacts : Contacts := {}
  channels : Sixteen Channel := Vector.replicate 16 {}
  detectorFault : Vector Bool 4 := Vector.replicate 4 false
  healthy : Nat := 0
deriving DecidableEq, Repr, Inhabited

/-! ## Pack Store (chapter 5) -/

/-- Record states (5.2). -/
inductive RecordState where
  | held | discharging | ready | offered | inTransit | halted | adrift | feeding
deriving DecidableEq, Repr, Inhabited

/-- A pack record (R57) with its timers: the offer timer and the back-off timer in P, the transit timer in ms. The send
count is 0 before the first send (DESIGN CHOICE, log entry 47). -/
structure PackRecord where
  id : PackId
  data : PackData
  state : RecordState
  offerNumber : Option Nat := none
  destination : Option Nat := none
  offerTimer : Option Nat := none
  sendCount : Nat := 0
  backOff : Option Nat := none
  transitTimer : Option Nat := none
deriving DecidableEq, Repr, Inhabited

/-- A reservation (R59); the grant hold timer holds its interval in seconds. -/
structure Reservation where
  station : Nat
  packId : PackId
  offerNumber : Nat
  number : Nat
  pack : PackData
  energy : Nat
  holdTimer : Option Nat
deriving DecidableEq, Repr, Inhabited

/-- Outcomes of the handoff note (R85). -/
inductive HandoffOutcome where
  | granted | refused (r : RefusalReason) | noReply | taken | takenLate | lapsed | cancelled (r : CancelReason)
  | dispute | unexpectedArrival
deriving DecidableEq, Repr, Inhabited

/-- The handoff note (R85). -/
structure HandoffNote where
  packId : PackId
  station : Nat
  outcome : HandoffOutcome
deriving DecidableEq, Repr, Inhabited

/-- The Pack Store. -/
structure PackStore where
  records : List PackRecord := []
  reservations : List Reservation := []
  nextOffer : Nat := 0
  nextReservation : Nat := 0
  quiet : Stations Nat := Vector.replicate 31 0
  permit : Bool := false
  heldEnergy : Nat := 0
  reservedEnergy : Nat := 0
  allowance : Nat := 0
  unmatched : Nat := 0
  note : Option HandoffNote := none
deriving DecidableEq, Repr, Inhabited

/-! ## Discharge Engine (chapter 6) -/

/-- Engine states (chapter 6). -/
inductive EngineState where
  | idle | connect | ramp | run | unload | rest | done | fault | isolate
deriving DecidableEq, Repr, Inhabited

/-- Hand-back reasons (R102). -/
inductive HandBackReason where
  | stopped | alarm | hot | clashed
deriving DecidableEq, Repr, Inhabited

/-- Fault causes of the engine (R111). -/
inductive FaultCause where
  | polarity | voltage | loadDeviation | measurementLost | stubborn | loadStuck
deriving DecidableEq, Repr, Inhabited

/-- The unload purpose (R102). -/
inductive UnloadPurpose where
  | rest | handBack (r : HandBackReason) | fault (c : FaultCause)
deriving DecidableEq, Repr, Inhabited

/-- Measurement status (R97). -/
inductive MeasureStatus where
  | valid | held | lost
deriving DecidableEq, Repr, Inhabited

/-- The last valid V, I and T (R97). -/
structure Reading where
  v : Int
  i : Int
  t : Int
deriving DecidableEq, Repr, Inhabited

/-- Outcomes of the end note (R112). -/
inductive EndOutcome where
  | done | handedBack (r : HandBackReason) | faulted (c : FaultCause) | isolationFailed
deriving DecidableEq, Repr, Inhabited

/-- The end note (R112). -/
structure EndNote where
  packId : PackId
  outcome : EndOutcome
deriving DecidableEq, Repr, Inhabited

/-- The Discharge Engine. Its timers are `none` while stopped and hold the samples left while they run.
`lossDue` is the model's own: the status has become LOST and R98 has not yet acted (log entry 1). -/
structure Engine where
  state : EngineState := .idle
  bound : Option PackId := none
  present : Nat := 0
  target : Nat := 0
  iCmd : Nat := 0
  rampCount : Nat := 0
  settleRun : Nat := 0
  settleTimer : Option Nat := none
  purpose : Option UnloadPurpose := none
  faultCause : Option FaultCause := none
  unloadCount : Nat := 0
  zeroRun : Nat := 0
  restTimer : Option Nat := none
  restRun : Nat := 0
  checkTimer : Option Nat := none
  status : MeasureStatus := .lost
  gap : Nat := 0
  lastValid : Option Reading := none
  reverse : Nat := 0
  endNote : Option EndNote := none
  contactor : Bool := false
  loadStep : Nat := 0
  lossDue : Bool := false
deriving DecidableEq, Repr, Inhabited

/-! ## Residual Unit (chapter 7) -/

/-- Where the curve was read (R127). -/
inductive Segment where
  | index (k : Nat) | belowFirst | aboveLast
deriving DecidableEq, Repr, Inhabited

/-- The outcome of the release test, with the parts that failed (R122, R127). -/
inductive ReleaseOutcome where
  | pass | fail (energy voltage : Bool)
deriving DecidableEq, Repr, Inhabited

/-- The figures of a computation of R123. -/
structure Computation where
  cellVoltage : Nat
  segment : Segment
  fraction : Nat
  eV : Nat
  eC : Option Nat
  residual : Nat
  basis : Basis
  outcome : ReleaseOutcome
deriving DecidableEq, Repr, Inhabited

/-- The computation note (R127); no figures stand in it for the outcome NEGATIVE VOLTAGE. -/
structure ComputationNote where
  packId : PackId
  v : Int
  figures : Option Computation
deriving DecidableEq, Repr, Inhabited

/-! ## Atmosphere Unit (chapter 8) -/

/-- The trip cause (R128). -/
inductive TripCause where
  | none | o2High | sensorLoss | supplyLost | purgeFailed
deriving DecidableEq, Repr, Inhabited

/-- Causes of the atmosphere note (R142). -/
inductive AtmNoteCause where
  | purgeRequested | purgeSlow | purgeDone | o2Watch | sensor | disagree | cleared | trip (c : TripCause)
  | doorBreach | doorOpened
deriving DecidableEq, Repr, Inhabited

/-- The atmosphere note (R142). -/
structure AtmNote where
  state : AtmState
  cause : AtmNoteCause
deriving DecidableEq, Repr, Inhabited

/-- The supply note (R142): the newest supply cause, which alone tells the state that R139 records with it (DEDUCED, log
entry 57). -/
inductive SupplyNote where
  | toReserve | toPrimary | bothLow
deriving DecidableEq, Repr, Inhabited

/-- The condition whose loss dropped the feed permit (R145). -/
inductive PermitLoss where
  | atmosphere | zone | mark | clashed
deriving DecidableEq, Repr, Inhabited

/-- What the feed note records of a pack (R144 to R147). -/
inductive FeedOutcome where
  | feeding | permitLost (c : PermitLoss) | consumed | withdrawn
deriving DecidableEq, Repr, Inhabited

/-- The feed note. -/
structure FeedNote where
  packId : PackId
  outcome : FeedOutcome
deriving DecidableEq, Repr, Inhabited

/-- The Atmosphere Unit with the feed interlock. The purge timer holds its interval in seconds while it runs. -/
structure Atmosphere where
  state : AtmState := .opened
  tripCause : TripCause := .none
  attempts : Nat := 0
  purgeTimer : Option Nat := none
  healthyA : Bool := false
  healthyB : Bool := false
  readingA : Option Nat := none
  readingB : Option Nat := none
  effective : Option Nat := none
  supply : Supply := .primary
  bothLow : Bool := false
  purgeValve : Bool := false
  makeUpValve : Bool := false
  boost : Bool := false
  supplySelect : Supply := .primary
  note : Option AtmNote := none
  supplyNote : Option SupplyNote := none
  feedPermit : Bool := false
  feedNote : Option FeedNote := none
deriving DecidableEq, Repr, Inhabited

/-! ## Zone Unit (chapter 9) -/

/-- The origin of a change of level (R166); for an ALARM frame it holds the cause the frame carried. -/
inductive Origin where
  | own | peer (station : Nat) (frameCause : Option ZoneCause)
deriving DecidableEq, Repr, Inhabited

/-- The zone note (R166). -/
structure ZoneNote where
  level : ZoneLevel
  testFlag : Bool
  cause : Option ZoneCause
  origin : Origin
deriving DecidableEq, Repr, Inhabited

/-- The Zone Unit; the defaults are its values at start reset (R149): the own strict request is asserted.
`countdown` stands throughout COUNTDOWN, paused or not (log entry 59). `endDue` is the model's own: the countdown has ended and
R162 has not yet acted (log entry 1). -/
structure Zone where
  level : ZoneLevel := .normal
  cause : Option ZoneCause := none
  testFlag : Bool := false
  strictCommand : Bool := false
  grade2 : Nat := 0
  hot : Nat := 0
  ownStrict : Bool := true
  strictInForce : Bool := true
  releaseCount : Nat := 0
  countdown : Bool := false
  isolationLatch : Bool := false
  taken : Stations ZoneLevel := Vector.replicate 31 .normal
  suppression : Bool := false
  note : Option ZoneNote := none
  endDue : Bool := false
deriving DecidableEq, Repr, Inhabited

/-! ## Tally Unit (chapter 10) -/

/-- A pack counter with its lost-count marker (R170, R171). -/
structure Counter where
  value : Nat := 0
  lost : Bool := false
deriving DecidableEq, Repr, Inhabited

/-- Close reasons of a lot (R175). -/
inductive CloseReason where
  | command | full | alarm | atmosphere
deriving DecidableEq, Repr, Inhabited

/-- A lot (R175): OPEN while its close reason is absent; its pack count is the length of its list. -/
structure Lot where
  number : Nat
  closeReason : Option CloseReason := none
  packs : List PackId := []
  residualSum : Nat := 0
  peak : Option Nat := none
  watchEpisodes : Nat := 0
  epoch : Nat := 0
deriving DecidableEq, Repr, Inhabited

/-- The Tally Unit; the closed lots stand newest first. -/
structure Tally where
  admitted : Counter := {}
  received : Counter := {}
  released : Counter := {}
  consumed : Counter := {}
  removed : Counter := {}
  discharged : Nat := 0
  consumedResidual : Nat := 0
  openLot : Option Lot := none
  closedLots : List Lot := []
  nextLot : Nat := 1
deriving DecidableEq, Repr, Inhabited

/-! ## Station Port (chapter 11) -/

/-- The event kinds, in the order of the table of 11.4. -/
inductive EventKind where
  | recordReady | handoffDone | noReply | adrift | dispute | unexpectedArrival | dischargeEnd | dischargeFault
  | zoneChange | atmosphereChange | supplyChange | peerChange | notHeard | lineErrors | filterChange | lotClosed
deriving DecidableEq, Repr, Inhabited

/-- Reply codes (R185). -/
inductive ReplyCode where
  | none | done | refused | busy | bad
deriving DecidableEq, Repr, Inhabited

/-- Reasons of REFUSED and BAD replies, in the order of their codes 1 to 33 (R185). -/
inductive Reason where
  | length | sum | code | parameter | starting | halted | role | key | clashed | own | notTestable
  | fault | active | duplicate | full | unknown | alarm | measurement | hot | empty | idle | isolated
  | door | supply | notPermitted | quarantine | notFeeding | notInAlarm | released | electrical | peer
  | notReleased | none
deriving DecidableEq, Repr, Inhabited

/-- What stands in the reason byte of a reply: nothing, the CLAMPED flag of a DONE reply, or a reason (R185). -/
inductive ReplyReason where
  | none | clamped | because (r : Reason)
deriving DecidableEq, Repr, Inhabited

/-- One value of a reply's data, with the bytes it takes (R185). -/
inductive Item where
  | nat (bytes v : Nat)
  | int (bytes : Nat) (v : Int)
deriving DecidableEq, Repr, Inhabited

/-- What a READ EVENTS reply returned and its reading clears (R192). -/
structure EventsReturned where
  counts : Sixteen Nat
  flags : Sixteen Bool
  overruns : Nat
deriving DecidableEq, Repr, Inhabited

/-- A reply formed and not yet read (R187, R188). -/
structure Reply where
  code : ReplyCode
  tag : Byte
  overrun : Bool := false
  reason : ReplyReason := .none
  data : List Item := []
  returned : Option EventsReturned := none
deriving DecidableEq, Repr, Inhabited

/-- The Station Port. `clockedOut` is what the last transfer that clocked a reply copy out put on SDO. -/
structure Port where
  pendingReply : Option Reply := none
  overruns : Nat := 0
  counts : Sixteen Nat := Vector.replicate 16 0
  kindMasks : Sixteen Bool := Vector.replicate 16 false
  channelMasks : Sixteen Bool := Vector.replicate 16 false
  reChange : Sixteen Bool := Vector.replicate 16 false
  attention : Bool := false
  clockedOut : List Byte := []
deriving DecidableEq, Repr, Inhabited

/-! ## Start Unit (chapter 12) -/

/-- Start phases (chapter 12). -/
inductive Phase where
  | loading | listening | running | safeHalt
deriving DecidableEq, Repr, Inhabited

/-- A failing field with its reason (R198, R202). -/
inductive Failing where
  | memory | check | range (f : ConfigField) (index : Option Nat) | relation (f : ConfigField) (index : Option Nat)
deriving DecidableEq, Repr, Inhabited

/-- The epoch write outcome (R199). -/
inductive EpochOutcome where
  | written | failed
deriving DecidableEq, Repr, Inhabited

/-- One transaction on the configuration line (R197): the bus address, the bytes the part sends after it, and the number
of bytes it then reads. -/
structure LineTransaction where
  address : BitVec 7
  sent : List Byte
  read : Nat
deriving DecidableEq, Repr, Inhabited

/-- The Start Unit. `transactions` are those it has made on the configuration line since start reset, oldest first
(log entry 43). -/
structure Start where
  phase : Phase := .loading
  failing : Option Failing := none
  epoch : Option Nat := none
  outcome : Option EpochOutcome := none
  storedCheck : Option Check := none
  configTaken : Bool := false
  transactions : List LineTransaction := []
deriving DecidableEq, Repr, Inhabited

/-! ## The whole part -/

/-- The state of the ZL18. `cfg` is the configuration the blocks have taken, `uniqueId` the factory identity,
`draws` the model's own count of free values drawn, `pending` the queue of commands that are waiting. -/
structure State where
  link : Link
  peers : PeerTable
  bank : FilterBank
  store : PackStore
  engine : Engine
  residual : Option ComputationNote
  atm : Atmosphere
  zone : Zone
  tally : Tally
  port : Port
  start : Start
  cfg : Settings
  uniqueId : UniqueId
  draws : Nat
  pending : List Instr
deriving DecidableEq, Repr

/-- No command of the ZL18 stops the part: what its manual calls a fault, a refusal or a halt is a state of the
engine, a reply of the station port or a start phase. So no fault exists here. -/
inductive Fault where
deriving DecidableEq, Repr

/-- Why a command has no meaning in the model. -/
inductive Refusal where
  /-- Raised by an arm of `exec` for a command that has no meaning yet; no arm raises it. Safe: nothing follows
  from a refusal. -/
  | notModelled (mnemonic : String)
deriving DecidableEq, Repr

/-- The part right after start reset (R196, and the table of 12.5): every block at its start values, the start
phase LOADING, no command waiting. -/
def State.reset : State :=
  { link := {}
    peers := {}
    bank := {}
    store := {}
    engine := {}
    residual := none
    atm := {}
    zone := {}
    tally := {}
    port := {}
    start := {}
    cfg := {}
    uniqueId := Config.factoryId
    draws := 0
    pending := [] }

end Sys2Proof.Machine
end

