-- ==== Sys2Proof/Machine/Ops.lean ====
section
/-! DEFINITION. The shared operations: updates of one block of the state, tables indexed from 1, raising an event
kind (R191, R194), forming a reply (R188), counting a receive error (R10) and placing a frame (R7, R13 to R15). -/

namespace Sys2Proof.Machine

open Sys2Proof

/-! ## Updates of one block -/

def State.withLink (s : State) (x : Link) : State := { s with link := x }
def State.withPeers (s : State) (x : PeerTable) : State := { s with peers := x }
def State.withBank (s : State) (x : FilterBank) : State := { s with bank := x }
def State.withStore (s : State) (x : PackStore) : State := { s with store := x }
def State.withEngine (s : State) (x : Engine) : State := { s with engine := x }
def State.withResidual (s : State) (x : Option ComputationNote) : State := { s with residual := x }
def State.withAtm (s : State) (x : Atmosphere) : State := { s with atm := x }
def State.withZone (s : State) (x : Zone) : State := { s with zone := x }
def State.withTally (s : State) (x : Tally) : State := { s with tally := x }
def State.withPort (s : State) (x : Port) : State := { s with port := x }
def State.withStart (s : State) (x : Start) : State := { s with start := x }
def State.withCfg (s : State) (x : Settings) : State := { s with cfg := x }
def State.withDraws (s : State) (x : Nat) : State := { s with draws := x }

/-! ## Tables indexed from 1 -/

/-- The entry of number `n`, counted from 1; `d` where the table has none. -/
def at1 {α : Type} {k : Nat} (d : α) (v : Vector α k) (n : Nat) : α :=
  if n = 0 then d else (v[n - 1]?).getD d

/-- The table with the entry of number `n` replaced; unchanged where it has none. -/
def set1 {α : Type} {k : Nat} (v : Vector α k) (n : Nat) (x : α) : Vector α k :=
  if n = 0 then v else v.setIfInBounds (n - 1) x

/-- The station numbers, in increasing order. -/
def stationNumbers : List Nat := (List.range 31).map (· + 1)

/-- The channel numbers, or the numbers of the event kinds, in increasing order. -/
def sixteenNumbers : List Nat := (List.range 16).map (· + 1)

/-! ## Phases and levels -/

/-- The blocks are active: LISTENING or RUNNING (chapter 12). -/
def active (s : State) : Bool := decide (s.start.phase = .listening ∨ s.start.phase = .running)

/-- The order of the zone levels (R149). -/
def levelRank : ZoneLevel → Nat
  | .normal => 0 | .prealarm => 1 | .alarmUnconfirmed => 2 | .alarmConfirmed => 3 | .countdown => 4 | .released => 5

/-- Whether a level is an ALARM level: ALARM UNCONFIRMED or above (R149). -/
def isAlarm (l : ZoneLevel) : Bool := decide (2 ≤ levelRank l)

/-! ## The event set (R191, R194) -/

/-- The place of an event kind in the table of 11.4, counted from 1. -/
def kindNumber : EventKind → Nat
  | .recordReady => 1 | .handoffDone => 2 | .noReply => 3 | .adrift => 4 | .dispute => 5 | .unexpectedArrival => 6
  | .dischargeEnd => 7 | .dischargeFault => 8 | .zoneChange => 9 | .atmosphereChange => 10 | .supplyChange => 11
  | .peerChange => 12 | .notHeard => 13 | .lineErrors => 14 | .filterChange => 15 | .lotClosed => 16

/-- The attention output as the counts and the kind masks form it (R194). -/
def attentionOf (counts : Sixteen Nat) (masks : Sixteen Bool) : Bool :=
  sixteenNumbers.any (fun n => decide (0 < at1 0 counts n) && !at1 false masks n)

/-- The port with its attention output formed afresh (R194). -/
def formAttention (p : Port) : Port := { p with attention := attentionOf p.counts p.kindMasks }

/-- An event kind is raised once (R191). -/
def raise (k : EventKind) (s : State) : State :=
  s.withPort (formAttention
    { s.port with counts := set1 s.port.counts (kindNumber k) (satSucc 255 (at1 0 s.port.counts (kindNumber k))) })

/-! ## Replies (R188, R189) -/

/-- A reply becomes the pending reply; one that replaces an unread reply carries the overrun flag and is counted,
and the re-change markers of a replaced READ EVENTS reply clear (R188, R192). -/
def formReply (r : Reply) (s : State) : State :=
  if s.port.pendingReply.isSome then
    s.withPort { s.port with
      pendingReply := some { r with overrun := true }
      overruns := satSucc 255 s.port.overruns
      reChange := Vector.replicate 16 false }
  else s.withPort { s.port with pendingReply := some { r with overrun := false } }

/-- A DONE reply with its data. -/
def replyDone (tag : Byte) (data : List Item) (s : State) : State :=
  formReply { code := .done, tag := tag, data := data } s

/-- A REFUSED reply with its reason. -/
def replyRefused (tag : Byte) (r : Reason) (s : State) : State :=
  formReply { code := .refused, tag := tag, reason := .because r } s

/-- A BUSY reply. -/
def replyBusy (tag : Byte) (s : State) : State := formReply { code := .busy, tag := tag } s

/-- A BAD reply with its reason. -/
def replyBad (tag : Byte) (r : Reason) (s : State) : State :=
  formReply { code := .bad, tag := tag, reason := .because r } s

/-- A request that its owning block takes in LISTENING and RUNNING; in LOADING it is refused STARTING and in
SAFE HALT HALTED (R202). -/
def request (tag : Byte) (body : State → State) (s : State) : State :=
  match s.start.phase with
  | .loading => replyRefused tag .starting s
  | .safeHalt => replyRefused tag .halted s
  | .listening => body s
  | .running => body s

/-! ## The Link Controller's counts and places -/

/-- One receive error is counted (R10). -/
def countReceiveError (s : State) : State :=
  s.withLink { s.link with
    receiveErrors := satSucc 255 s.link.receiveErrors
    receiveTotal := satSucc 4294967295 s.link.receiveTotal }

/-- The attempt in progress once a newer frame has taken the slot of the frame it sends (R13, R14). -/
def Link.markReplaced (l : Link) : Link :=
  { l with attempt := l.attempt.map (fun a => { a with replaced := true }) }

/-- Whether the STATE in the slot is the one being attempted at this moment (R13). -/
def Link.attemptingState (l : Link) : Bool :=
  match l.attempt with
  | some { frame := .state _, replaced := false, .. } => true
  | _ => false

/-- Whether the ALARM in the slot is the one being attempted. -/
def Link.attemptingAlarm (l : Link) : Bool :=
  match l.attempt with
  | some { frame := .alarm _, replaced := false, .. } => true
  | _ => false

/-- Whether the JOIN in the slot is the one being attempted. -/
def Link.attemptingJoin (l : Link) : Bool :=
  match l.attempt with
  | some { frame := .join _, replaced := false, .. } => true
  | _ => false

/-- A STATE is placed: it takes the next sequence number and fills or replaces the slot (R13); in CLASHED it is
discarded and takes no number (R7). -/
def placeState (f : StateFrame) (s : State) : State :=
  if s.link.state = .clashed then s
  else
    let l := { s.link with
      stateSlot := some { f with sequence := s.link.nextSequence }
      nextSequence := (s.link.nextSequence + 1) % 16 }
    if s.link.stateSlot.isNone then s.withLink l
    else if s.link.attemptingState then s.withLink l.markReplaced
    else s.withLink { l with stateOverruns := satSucc 65535 l.stateOverruns }

/-- An ALARM is placed, replacing an unsent one without counting (R14); in CLASHED it is discarded (R7). -/
def placeAlarm (f : AlarmFrame) (s : State) : State :=
  if s.link.state = .clashed then s
  else
    let l := { s.link with alarmSlot := some f }
    if s.link.attemptingAlarm then s.withLink l.markReplaced else s.withLink l

/-- A JOIN is placed, replacing an unsent one without counting (R14); in CLASHED it is discarded (R7). -/
def placeJoin (f : JoinFrame) (s : State) : State :=
  if s.link.state = .clashed then s
  else
    let l := { s.link with joinSlot := some f }
    if s.link.attemptingJoin then s.withLink l.markReplaced else s.withLink l

/-- A handoff frame is placed at the tail of the queue, or dropped and counted where the queue holds 8 (R15); in
CLASHED it is discarded (R7). -/
def placeHandoff (f : HandoffFrame) (s : State) : State :=
  if s.link.state = .clashed then s
  else if s.link.queue.length < 8 then s.withLink { s.link with queue := s.link.queue ++ [f] }
  else s.withLink { s.link with handoffOverruns := satSucc 65535 s.link.handoffOverruns }

/-- The JOIN of this station (R37, R200). -/
def ownJoin (s : State) : JoinFrame :=
  { station := s.cfg.station, role := s.cfg.role, zone := s.cfg.zone, periodCode := s.cfg.periodCode,
    epoch := s.start.epoch.getD 0, uniqueId := s.uniqueId }

/-- PEER CHANGE is raised and the peer change note written (R39). -/
def peerChange (reason : PeerNoteReason) (station : Nat) (s : State) : State :=
  raise .peerChange (s.withPeers { s.peers with note := some { reason := reason, station := station } })

end Sys2Proof.Machine
end

