-- ==== Sys2Proof/Machine/PeerView.lean ====
section
/-! DEFINITION. What the other blocks read of a peer: entries, effective values and their substitutes (R31),
membership of the own zone (R32). -/

namespace Sys2Proof.Machine

open Sys2Proof

/-- The entry of a station number; the start values where there is none. -/
def State.peer (s : State) (n : Nat) : PeerEntry := at1 {} s.peers.entries n

/-- The entry of a station number is replaced. -/
def State.setPeer (s : State) (n : Nat) (e : PeerEntry) : State :=
  s.withPeers { s.peers with entries := set1 s.peers.entries n e }

/-- An entry both ADMITTED and IN STEP. -/
def PeerEntry.followed (e : PeerEntry) : Bool := decide (e.admission = .admitted ∧ e.step = .inStep)

/-- The published values a consumer may read: those of an entry ADMITTED and IN STEP (R31). -/
def PeerEntry.readable (e : PeerEntry) : Option Published := if e.followed then e.published else none

/-- The effective zone level: the published one, NORMAL under the test flag, or the substitute PREALARM (R31). -/
def PeerEntry.effectiveLevel (e : PeerEntry) : ZoneLevel :=
  match e.readable with
  | some p => if p.testFlag then .normal else p.level
  | none => .prealarm

/-- The effective strict request: the published one, or the substitute, asserted (R31). -/
def PeerEntry.effectiveStrict (e : PeerEntry) : Bool :=
  match e.readable with
  | some p => p.strict
  | none => true

/-- The effective free places: the published ones, or the substitute 0 (R31). -/
def PeerEntry.effectiveFree (e : PeerEntry) : Nat :=
  match e.readable with
  | some p => p.freePlaces
  | none => 0

/-- Whether a station is a member of the own zone: recorded there, and ADMITTED or UNKNOWN after a restart; an
entry that is UNKNOWN for another reason has no recorded zone (R32). -/
def isMember (s : State) (n : Nat) : Bool :=
  decide ((s.peer n).recordedZone = some s.cfg.zone
    ∧ ((s.peer n).admission = .admitted ∨ (s.peer n).admission = .unknown))

/-- The members of the own zone, in rising station order, as READ ZONE lists them (R169; DESIGN CHOICE, log entry 9). -/
def members (s : State) : List Nat := stationNumbers.filter (isMember s)

/-- Whether a sender's ALARM may act: ADMITTED, recorded in the own zone, and naming its recorded zone (R33). -/
def alarmMayAct (s : State) (f : AlarmFrame) : Bool :=
  decide ((s.peer f.station).admission = .admitted ∧ (s.peer f.station).recordedZone = some s.cfg.zone
    ∧ (s.peer f.station).recordedZone = some f.zone)

end Sys2Proof.Machine
end

