-- ==== Sys2Proof/Machine/StoreOps.lean ====
section
/-! DEFINITION. The Pack Store: records and reservations, its sums and the transfer permit (R58, R70, R74), marks and
history (R57), choosing and offering (R63 to R67), the grant test (R71), and what ends an exchange (R80, R81). -/

namespace Sys2Proof.Machine

open Sys2Proof

/-! ## Records -/

/-- The forbidding marks: DAMAGED, VOLTAGE, POLARITY (R61). -/
def marksForbid (m : Marks) : Bool := m.damaged || m.voltage || m.polarity

/-- Whether a record carries a mark: quarantined (R57). -/
def marksAny (m : Marks) : Bool :=
  m.damaged || m.voltage || m.polarity || m.stubborn || m.hot || m.isolation || m.untracked || m.disputed

/-- A history entry joins at the newest end; the list keeps the six newest (R57). -/
def addHistory (station : Nat) (o : HistoryOutcome) (p : PackData) : PackData :=
  let h := p.history ++ [{ station := station, outcome := o }]
  { p with history := h.drop (h.length - 6) }

/-- The residual a record counts for: its R, or its E_nom where R is absent (R59, R70). -/
def packEnergy (p : PackData) : Nat := p.residual.getD p.eNom

/-- The oldest record with a pack ID. -/
def findRecord (id : PackId) (s : State) : Option PackRecord := s.store.records.find? (fun r => decide (r.id = id))

/-- The oldest reservation with a pack ID. -/
def findReservation (id : PackId) (s : State) : Option Reservation :=
  s.store.reservations.find? (fun r => decide (r.packId = id))

/-- The number of records and reservations together (R58). -/
def entriesHeld (s : State) : Nat := s.store.records.length + s.store.reservations.length

/-- The free places: 8 less the records and reservations, and 0 below that (R58). -/
def freePlaces (s : State) : Nat := 8 - entriesHeld s

/-! ## Sums and the transfer permit -/

/-- The effective limit of the chamber (R70). -/
def effectiveLimit (s : State) : Nat :=
  match s.atm.state with
  | .inert => s.cfg.energyLimit
  | .watch => s.cfg.energyLimit / 2
  | _ => 0

/-- The sum of the residuals of the records (R70). -/
def heldSum (rs : List PackRecord) : Nat := (rs.map (fun r => packEnergy r.data)).sum

/-- The sum of the energy reserved (R70). -/
def reservedSum (rs : List Reservation) : Nat := (rs.map (fun r => r.energy)).sum

/-- The conditions of the transfer permit: a record IN TRANSIT, no ALARM level, no CLASHED (R74). -/
def permitHolds (s : State) : Bool :=
  s.store.records.any (fun r => decide (r.state = .inTransit)) && !isAlarm s.zone.level
    && decide (s.link.state = .active)

/-- A quantity that is kept at a CHAMBER, and 0 at the other roles. -/
def atChamber (role : Role) (n : Nat) : Nat :=
  match role with
  | .chamber => n
  | .bay => 0
  | .pass => 0

/-- The Pack Store's sums, allowance and permit formed afresh; at a role other than CHAMBER the sums and the
allowance stay 0 (R70, R74). -/
def refreshStore (s : State) : State :=
  s.withStore { s.store with
    permit := permitHolds s
    heldEnergy := atChamber s.cfg.role (heldSum s.store.records)
    reservedEnergy := atChamber s.cfg.role (reservedSum s.store.reservations)
    allowance := atChamber s.cfg.role
      (effectiveLimit s - heldSum s.store.records - reservedSum s.store.reservations) }

/-- The records are replaced, and what follows from them is formed afresh. -/
def putRecords (rs : List PackRecord) (s : State) : State := refreshStore (s.withStore { s.store with records := rs })

/-- The reservations are replaced, and what follows from them is formed afresh. -/
def putReservations (rs : List Reservation) (s : State) : State :=
  refreshStore (s.withStore { s.store with reservations := rs })

/-- The record with a pack ID changes. -/
def updateRecord (id : PackId) (f : PackRecord → PackRecord) (s : State) : State :=
  putRecords (s.store.records.map (fun r => if r.id = id then f r else r)) s

/-- A record joins the end of the store (R58). -/
def joinRecord (r : PackRecord) (s : State) : State := putRecords (s.store.records ++ [r]) s

/-- The oldest record with a pack ID leaves the store. -/
def dropRecord (id : PackId) (s : State) : State :=
  putRecords (s.store.records.eraseP (fun r => decide (r.id = id))) s

/-- The reservation of a sending station, pack ID and offer number leaves the store; its timer stops with it. -/
def dropReservation (v : Reservation) (s : State) : State :=
  putReservations (s.store.reservations.eraseP (fun r =>
    decide (r.station = v.station ∧ r.packId = v.packId ∧ r.offerNumber = v.offerNumber))) s

/-- The handoff note is replaced (R85). -/
def handoffNote (id : PackId) (station : Nat) (o : HandoffOutcome) (s : State) : State :=
  s.withStore { s.store with note := some { packId := id, station := station, outcome := o } }

/-- One unmatched frame is counted (R85). -/
def countUnmatched (s : State) : State := s.withStore { s.store with unmatched := satSucc 65535 s.store.unmatched }

/-- A record in another state, its offer and transit timers stopped; its send count stands (DESIGN CHOICE, log entry 47). -/
def PackRecord.into (st : RecordState) (r : PackRecord) : PackRecord :=
  { r with state := st, offerTimer := none, transitTimer := none }

/-- A record comes to HELD; at a BAY it becomes READY at once where a forbidding mark stands, which raises
RECORD READY (R61). -/
def holdRecord (id : PackId) (s : State) : State :=
  match findRecord id s with
  | none => s
  | some r =>
    if s.cfg.role = .bay ∧ marksForbid r.data.marks = true then
      raise .recordReady (updateRecord id (fun r => r.into .ready) s)
    else updateRecord id (fun r => r.into .held) s

/-! ## Handoff frames -/

/-- The head of a handoff frame of this station. -/
def headTo (s : State) (destination : Nat) (id : PackId) (offerNumber : Nat) : HandoffHead :=
  { station := s.cfg.station, destination := destination, packId := id, offerNumber := offerNumber }

/-- A CANCEL is placed. -/
def placeCancel (destination : Nat) (id : PackId) (offerNumber : Nat) (reason : CancelReason) (s : State) : State :=
  placeHandoff (.cancel { head := headTo s destination id offerNumber, reason := reason }) s

/-- A GRANT for a reservation is placed (R69). -/
def placeGrant (v : Reservation) (s : State) : State :=
  placeHandoff (.grant { head := headTo s v.station v.packId v.offerNumber, reservation := v.number }) s

/-- A TAKEN is placed. -/
def placeTaken (destination : Nat) (id : PackId) (offerNumber : Nat) (late : Bool) (s : State) : State :=
  placeHandoff (.taken { head := headTo s destination id offerNumber, late := late }) s

/-- The OFFER of a record as its fields stand (R65). -/
def placeOffer (r : PackRecord) (s : State) : State :=
  placeHandoff (.offer { head := headTo s (r.destination.getD 0) r.id (r.offerNumber.getD 0), pack := r.data }) s

/-! ## Choosing and offering -/

/-- The destination of a record (R64): the quarantine destination of a quarantined record, else the alternate one
while DIVERT is SET, else the default one. -/
def destinationOf (divert : Bool) (s : State) (r : PackRecord) : Option Nat :=
  if marksAny r.data.marks then s.cfg.quarantineDestination
  else if divert then s.cfg.alternateDestination
  else s.cfg.defaultDestination

/-- Whether a destination is available: ADMITTED, IN STEP, one effective free place or more (R64). -/
def available (s : State) (n : Nat) : Bool :=
  (s.peer n).followed && decide (1 ≤ (s.peer n).effectiveFree)

/-- A station's refusal streak rises by 1 and its quiet count starts afresh (R67). -/
def raiseStreak (n : Nat) (s : State) : State :=
  let s1 := s.setPeer n { s.peer n with streak := satSucc 255 (s.peer n).streak }
  s1.withStore { s1.store with quiet := set1 s1.store.quiet n 0 }

/-- A station's refusal streak returns to 0 (R67). -/
def clearStreak (n : Nat) (s : State) : State := s.setPeer n { s.peer n with streak := 0 }

/-- The first send of an offer (R65). The timer holds its 4 P. -/
def firstSend (r : PackRecord) (destination : Nat) (s : State) : State :=
  let r' := { r with
    state := .offered
    offerNumber := some s.store.nextOffer
    destination := some destination
    offerTimer := some 4
    sendCount := 1 }
  let s1 := updateRecord r.id (fun _ => r') s
  placeOffer r' (s1.withStore { s1.store with nextOffer := (s1.store.nextOffer + 1) % 256 })

/-- The examination for an offer at a period timer expiry (R63): the oldest READY record is offered unless one of
the listed cases holds. -/
def examineOffer (divert : Bool) (s : State) : State :=
  match s.store.records.find? (fun r => decide (r.state = .ready)) with
  | none => s
  | some r =>
    if s.store.records.any (fun r => decide (r.state = .offered ∨ r.state = .inTransit)) = true
        ∨ s.zone.level ≠ .normal ∨ s.link.state = .clashed ∨ r.backOff.isSome = true then s
    else
      match destinationOf divert s r with
      | none => s
      | some n => if available s n then firstSend r n s else s

/-! ## The receiver's answer -/

/-- The record of an OFFER with its two clamps (R69, R126). -/
def clampPack (p : PackData) : PackData :=
  { p with residual := p.residual.map (fun r => min r p.eNom), eDecl := p.eDecl.map (fun e => min e p.eNom) }

/-- The grant test of a CHAMBER for a clamped record: the reason of the first part that fails (R71). -/
def grantTest (p : PackData) (s : State) : Option RefusalReason :=
  if marksAny p.marks then some .quarantine
  else if s.atm.state ≠ .inert ∧ s.atm.state ≠ .watch then some .atmosphere
  else if effectiveLimit s < packEnergy p + heldSum s.store.records + reservedSum s.store.reservations then some .budget
  else none

/-- A reservation is created for a clamped record, its GRANT placed and its timer started (R59, R69). -/
def createReservation (h : HandoffHead) (p : PackData) (s : State) : State :=
  let v : Reservation :=
    { station := h.station, packId := h.packId, offerNumber := h.offerNumber, number := s.store.nextReservation,
      pack := p, energy := if s.cfg.role = .chamber then packEnergy p else 0, holdTimer := some s.cfg.grantHold }
  let s1 := putReservations (s.store.reservations ++ [v]) s
  let s2 := s1.withStore { s1.store with nextReservation := (s1.store.nextReservation + 1) % 256 }
  handoffNote h.packId h.station .granted (placeGrant v s2)

/-! ## What ends an exchange -/

/-- Whether a record is in an exchange with a station. -/
def PackRecord.exchangesWith (n : Nat) (r : PackRecord) : Bool :=
  decide ((r.state = .offered ∨ r.state = .inTransit) ∧ r.destination = some n)

/-- Every exchange with a station is ended (R81): reservations from it leave, records OFFERED to it become READY and
records IN TRANSIT to it ADRIFT, and a CANCEL PEER RESTART is placed for each. The CANCELs join the queue for the
reservations first, then for the records, each in the order of the store (DESIGN CHOICE, log entry 48). -/
def endExchanges (n : Nat) (s : State) : State :=
  let gone := s.store.reservations.filter (fun v => decide (v.station = n))
  let s1 := putReservations (s.store.reservations.filter (fun v => decide (v.station ≠ n))) s
  let s2 := gone.foldl (fun s v => placeCancel n v.packId v.offerNumber .peerRestart s) s1
  let hit := s2.store.records.filter (fun r => r.exchangesWith n)
  let s3 := putRecords (s2.store.records.map (fun r =>
    if r.exchangesWith n then r.into (if r.state = .inTransit then .adrift else .ready) else r)) s2
  hit.foldl (fun s r =>
    placeCancel n r.id (r.offerNumber.getD 0) .peerRestart
      (if r.state = .inTransit then raise .adrift s else s)) s3

/-- A rise of the own level to an ALARM level, as sender and as receiver (R80): records OFFERED become READY and
records IN TRANSIT HALTED with a CANCEL ABORT each; each reservation leaves with a CANCEL ALARM. The CANCELs join the
queue for the records first, then for the reservations, each in the order of the store (DESIGN CHOICE, log entry 48). -/
def zoneAlarmCancel (s : State) : State :=
  let hit := s.store.records.filter (fun r => decide (r.state = .offered ∨ r.state = .inTransit))
  let s1 := putRecords (s.store.records.map (fun r =>
    if r.state = .offered then r.into .ready else if r.state = .inTransit then r.into .halted else r)) s
  let s2 := hit.foldl (fun s r =>
    placeCancel (r.destination.getD 0) r.id (r.offerNumber.getD 0) .abort s) s1
  let gone := s2.store.reservations
  gone.foldl (fun s v => placeCancel v.station v.packId v.offerNumber .alarm s) (putReservations [] s2)

end Sys2Proof.Machine
end

