-- ==== Sys2Proof/Machine/ResidualOps.lean ====
section
/-! DEFINITION. The Residual Unit: per-cell voltage (R116), the curve (R118), the estimates (R119, R120), the residual
(R121), the release test (R122), the computation at rest expiry (R123) and the integration (R124, R125). -/

namespace Sys2Proof.Machine

open Sys2Proof

/-- The curve of a chemistry. -/
def curveOf (s : State) (chemistry : Nat) : Curve := at1 {} s.cfg.curves (chemistry + 1)

/-- The per-cell voltage in mV of a pack voltage at or above 0, at most 65535 (R116). -/
def cellVoltage (v : Int) (cells : Nat) : Nat := min 65535 (v.toNat * 10 / cells)

/-- The segment of the knots in which a cell voltage lies, counted from `k`, and the fraction read there (R118). -/
def segmentFraction (k : Nat) : List (Nat × Nat) → Nat → Option (Nat × Nat)
  | (v0, f0) :: (v1, f1) :: rest, vc =>
    if v0 ≤ vc ∧ vc < v1 then some (k, f0 + divUp ((f1 - f0) * (vc - v0)) (v1 - v0))
    else segmentFraction (k + 1) ((v1, f1) :: rest) vc
  | _, _ => none

/-- Where a curve is read at a cell voltage, and the fraction in per mille (R118). -/
def curveFraction (knots : List (Nat × Nat)) (vc : Nat) : Segment × Nat :=
  let first := knots.headD (0, 0)
  let last := knots.getLastD (0, 0)
  if vc ≤ first.1 then (.belowFirst, first.2)
  else if last.1 ≤ vc then (.aboveLast, last.2)
  else match segmentFraction 0 knots vc with
    | some (k, f) => (.index k, f)
    | none => (.aboveLast, last.2)

/-- The voltage estimate E_v, rounded up (R119). -/
def voltageEstimate (eNom fraction : Nat) : Nat := divUp (eNom * fraction) 1000

/-- The counted estimate E_c, absent where E_decl is (R120). -/
def countedEstimate (p : PackData) : Option Nat := p.eDecl.map (fun e => e - p.eDis)

/-- The residual and its basis: the larger estimate, COUNTED only where E_c is the greater (R121). -/
def residualOf (eV : Nat) (eC : Option Nat) : Nat × Basis :=
  match eC with
  | none => (eV, .voltage)
  | some c => if eV < c then (c, .counted) else (eV, .voltage)

/-- The release test, both parts judged together (R122). -/
def releaseTest (s : State) (residual vc : Nat) : ReleaseOutcome :=
  if residual ≤ s.cfg.releaseLimit ∧ vc ≤ s.cfg.releaseCellVoltage then .pass
  else .fail (decide (s.cfg.releaseLimit < residual)) (decide (s.cfg.releaseCellVoltage < vc))

/-- The figures of a computation from a pack voltage at or above 0 (R123, steps 3 to 5). -/
def computeFigures (s : State) (v : Int) (p : PackData) : Computation :=
  let vc := cellVoltage v p.cells
  let read := curveFraction (curveOf s p.chemistry).knots vc
  let eV := voltageEstimate p.eNom read.2
  let eC := countedEstimate p
  let r := residualOf eV eC
  { cellVoltage := vc, segment := read.1, fraction := read.2, eV := eV, eC := eC, residual := r.1, basis := r.2,
    outcome := releaseTest s r.1 vc }

/-- The computation at rest expiry for a record: the record's R and basis are written and the note replaced; below
0 V nothing is written but the note (R123, R127). -/
def computeResidual (v : Int) (r : PackRecord) (s : State) : State :=
  if v < 0 then s.withResidual (some { packId := r.id, v := v, figures := none })
  else
    let c := computeFigures s v r.data
    (updateRecord r.id (fun x => { x with data := { x.data with residual := some c.residual, basis := c.basis } }) s).withResidual
      (some { packId := r.id, v := v, figures := some c })

/-- Whether a computation's answer is PASS; below 0 V it is FAIL (R123). -/
def releasePasses (v : Int) (r : PackRecord) (s : State) : Bool :=
  decide (0 ≤ v) && decide ((computeFigures s v r.data).outcome = .pass)

/-- One integrated sample: V × I in µJ joins E_dis and its remainder, with carry and saturation (R124, R125). A saturated
record stays so, since its remainder of 999,999 carries again at any product of 1 or more. -/
def integrate (microjoules : Nat) (p : PackData) : PackData :=
  let sum := p.eDisRem + microjoules
  if 4294967295 < p.eDis + sum / 1000000 then { p with eDis := 4294967295, eDisRem := 999999 }
  else { p with eDis := p.eDis + sum / 1000000, eDisRem := sum % 1000000 }

end Sys2Proof.Machine
end

