-- ==== Sys2Proof/Machine/TallyOps.lean ====
section
/-! DEFINITION. The Tally Unit: counters (R170, R171), energy totals (R173, R174) and the lot journal
(R175 to R181). -/

namespace Sys2Proof.Machine

open Sys2Proof

/-- A counter rises by 1, or keeps 4,294,967,295 and marks the rise lost (R171). -/
def Counter.bump (c : Counter) : Counter :=
  if c.value < 4294967295 then { c with value := c.value + 1 } else { c with lost := true }

/-- Whether a counter's largest value has been met (R171). -/
def Tally.marked (t : Tally) : Bool :=
  t.admitted.lost || t.received.lost || t.released.lost || t.consumed.lost || t.removed.lost

/-- The balance of R172, formed exactly. -/
def Tally.balance (t : Tally) : Int :=
  (t.admitted.value : Int) + t.received.value - t.released.value - t.consumed.value - t.removed.value

/-- An energy total with an amount added, saturating at its largest value (R173). -/
def addTotal (total amount : Nat) : Nat := satAdd 18446744073709551615 total amount

def countAdmitted (s : State) : State := s.withTally { s.tally with admitted := s.tally.admitted.bump }
def countReceived (s : State) : State := s.withTally { s.tally with received := s.tally.received.bump }
def countReleased (s : State) : State := s.withTally { s.tally with released := s.tally.released.bump }
def countRemoved (s : State) : State := s.withTally { s.tally with removed := s.tally.removed.bump }

/-- The discharged energy of a record that reached DONE is added (R173). -/
def addDischarged (joules : Nat) (s : State) : State :=
  s.withTally { s.tally with discharged := addTotal s.tally.discharged joules }

/-- The open lot, if any, closes (R178). -/
def closeLot (reason : CloseReason) (s : State) : State :=
  match s.tally.openLot with
  | none => s
  | some lot =>
    raise .lotClosed (s.withTally { s.tally with
      openLot := none
      closedLots := ({ lot with closeReason := some reason } :: s.tally.closedLots).take 4 })

/-- The number that follows a lot number (R176). -/
def lotAfter (n : Nat) : Nat := if n = 65535 then 1 else n + 1

/-- A lot opens (R176). -/
def openLot (s : State) : State :=
  s.withTally { s.tally with
    openLot := some { number := s.tally.nextLot, peak := s.atm.effective, epoch := s.start.epoch.getD 0 }
    nextLot := lotAfter s.tally.nextLot }

/-- A pack and its residual enter the open lot, which closes FULL at its 48th pack (R177). A pack ID that the lot holds
already joins its list again (DESIGN CHOICE, log entry 55). -/
def enterLot (id : PackId) (residual : Nat) (s : State) : State :=
  match s.tally.openLot with
  | none => s
  | some lot =>
    let lot' := { lot with packs := lot.packs ++ [id], residualSum := lot.residualSum + residual }
    let s' := s.withTally { s.tally with openLot := some lot' }
    if 48 ≤ lot'.packs.length then closeLot .full s' else s'

/-- The handing over of a consumed pack: counter, total, lot, in this order. A lot opened for the pack at an ALARM
level closes at once with ALARM, and in TRIP with ATMOSPHERE (R174, R176, R177). -/
def tallyConsumed (id : PackId) (residual : Nat) (s : State) : State :=
  let s1 := s.withTally { s.tally with
    consumed := s.tally.consumed.bump
    consumedResidual := addTotal s.tally.consumedResidual residual }
  if s.tally.openLot.isSome then enterLot id residual s1
  else
    let s2 := enterLot id residual (openLot s1)
    if isAlarm s.zone.level then closeLot .alarm s2
    else if s.atm.state = .trip then closeLot .atmosphere s2
    else s2

/-- The open lot takes the effective O2 handed over at an expiry (R181). -/
def tallyPeak (s : State) : State :=
  match s.tally.openLot, s.atm.effective with
  | some lot, some o2 =>
    if lot.peak.all (· < o2) then s.withTally { s.tally with openLot := some { lot with peak := some o2 } } else s
  | _, _ => s

/-- The open lot counts one WATCH episode (R181). -/
def tallyWatch (s : State) : State :=
  match s.tally.openLot with
  | some lot =>
    s.withTally { s.tally with openLot := some { lot with watchEpisodes := satSucc 65535 lot.watchEpisodes } }
  | none => s

end Sys2Proof.Machine
end

