-- ==== Sys2Proof/Machine/EngineOps.lean ====
section
/-! DEFINITION. The Discharge Engine: its states and outputs (R88), target current (R92, R93), unload (R102), hand-back
(R103, R111), faults (R111), and the steps that a sample timer expiry makes due (R91, R94, R96, R98, R103 to R105,
R109) but for the isolation check, which tells the Zone Unit. -/

namespace Sys2Proof.Machine

open Sys2Proof

/-! ## Outputs of the filter channels -/

/-- The output of a channel: SET in SET and CLEARING (4.3). -/
def Channel.output (c : Channel) : Bool :=
  match c.phase with
  | .clear => false
  | .asserting _ => false
  | .set => true
  | .clearing _ => true

/-- The output of the channel of a number. -/
def channelOut (s : State) (n : Nat) : Bool := (at1 {} s.bank.channels n).output

/-! ## States and outputs -/

/-- The states in which the contactor is closed (R88). -/
def contactorClosed : EngineState → Bool
  | .connect => true | .ramp => true | .run => true | .rest => true | .unload => true
  | .idle => false | .done => false | .fault => false | .isolate => false

/-- The engine enters a state, and the contactor output follows (R88). -/
def Engine.enter (st : EngineState) (e : Engine) : Engine := { e with state := st, contactor := contactorClosed st }

/-- The present step changes, and the load step output follows (R88). -/
def Engine.setPresent (k : Nat) (e : Engine) : Engine := { e with present := k, loadStep := k }

/-- The engine changes by a function of itself. -/
def onEngine (f : Engine → Engine) (s : State) : State := s.withEngine (f s.engine)

/-- The bound record. -/
def boundRecord (s : State) : Option PackRecord := s.engine.bound.bind (fun id => findRecord id s)

/-- The bound record's data changes. -/
def updateBound (f : PackData → PackData) (s : State) : State :=
  match s.engine.bound with
  | some id => updateRecord id (fun r => { r with data := f r.data }) s
  | none => s

/-! ## Target current (R92, R93) -/

/-- The damage cap; a record of grade 3 is never bound and has none. -/
def damageCap (grade iBay : Nat) : Nat :=
  if grade = 1 then 3 * iBay / 4 else if grade = 2 then iBay / 2 else iBay

/-- The commanded current: the least of the caps in force (R92). -/
def commandedCurrent (s : State) (p : PackData) : Nat :=
  let i := s.cfg.iBay
  let heat := if channelOut s 5 then i / 2 else i
  let zone := if s.zone.level = .prealarm then i / 2 else i
  min i (min p.iPack (min (damageCap p.grade i) (min heat zone)))

/-- The target step for a commanded current: at most 63 (R92). -/
def targetStep (s : State) (current : Nat) : Nat := min 63 (current / s.cfg.stepCurrent)

/-- I_cmd and the target step are recomputed; a new target in RAMP or RUN restarts the settle timer (R93). -/
def recomputeTarget (s : State) : State :=
  match boundRecord s with
  | none => s
  | some r =>
    let i := commandedCurrent s r.data
    let t := targetStep s i
    let e : Engine := { s.engine with iCmd := i, target := t }
    if t ≠ s.engine.target ∧ (e.state = .ramp ∨ e.state = .run) then
      s.withEngine { e with settleTimer := some s.cfg.settleTimeout }
    else s.withEngine e

/-- The recomputation at a change of PACK HOT or of the zone level, in CONNECT, RAMP and RUN (R93). -/
def recomputeUnderLoad (s : State) : State :=
  if s.engine.state = .connect ∨ s.engine.state = .ramp ∨ s.engine.state = .run then recomputeTarget s else s

/-- The engine enters RAMP: counts and settle run afresh, target recomputed, settle timer started (R93 to R96). -/
def enterRamp (s : State) : State :=
  onEngine (fun e => { e with settleTimer := some s.cfg.settleTimeout })
    (recomputeTarget (onEngine (fun e => { e.enter .ramp with rampCount := 0, settleRun := 0 }) s))

/-! ## Unload, hand-back and fault -/

/-- An unload begins (R102): counts to 0, the settle, rest and contactor check timers stopped, the purpose taken. -/
def beginUnload (p : UnloadPurpose) (s : State) : State :=
  onEngine (fun e => { e.enter .unload with
    rampCount := 0
    unloadCount := 0
    zeroRun := 0
    settleTimer := none
    restTimer := none
    checkTimer := none
    purpose := some p }) s

/-- The purpose that stands once a further reason to unload has arrived in UNLOAD: the table of R102. -/
def mergePurpose (standing arriving : UnloadPurpose) : UnloadPurpose :=
  match standing, arriving with
  | .rest, .handBack r => .handBack r
  | .rest, .fault c => .fault c
  | .handBack _, .fault c => .fault c
  | p, _ => p

/-- A reason to unload: in CONNECT, RAMP, RUN and REST an unload begins; in UNLOAD the purpose changes by the table of
R102; in any other state nothing happens. -/
def orderUnload (p : UnloadPurpose) (s : State) : State :=
  match s.engine.state with
  | .connect => beginUnload p s
  | .ramp => beginUnload p s
  | .run => beginUnload p s
  | .rest => beginUnload p s
  | .unload => onEngine (fun e => { e with purpose := some (mergePurpose (e.purpose.getD .rest) p) }) s
  | .idle => s
  | .done => s
  | .fault => s
  | .isolate => s

/-- The engine enters IDLE: contactor open, step 0, no bound record. -/
def enterIdle (s : State) : State :=
  onEngine (fun e => { (e.enter .idle).setPresent 0 with bound := none, faultCause := none }) s

/-- The bound record is handed back to HELD, or READY under a forbidding mark, and the engine enters IDLE (R103,
R111). -/
def handBack (s : State) : State :=
  match s.engine.bound with
  | some id => enterIdle (holdRecord id s)
  | none => enterIdle s

/-- The end note is replaced with the bound record's outcome (R112). -/
def endNote (o : EndOutcome) (s : State) : State :=
  match s.engine.bound with
  | some id => onEngine (fun e => { e with endNote := some { packId := id, outcome := o } }) s
  | none => s

/-- The engine enters FAULT (R111). -/
def enterFault (c : FaultCause) (s : State) : State :=
  let s1 := onEngine (fun e => { (e.enter .fault).setPresent 0 with faultCause := some c, checkTimer := none }) s
  raise .dischargeFault (endNote (.faulted c) (updateBound (addHistory s.cfg.station .faulted) s1))

/-- The engine's part of a change of the own level (R107): a rise to an ALARM level unloads; a change that leaves it
below recomputes the target. -/
def engineTakesLevel (old new : ZoneLevel) (s : State) : State :=
  if isAlarm old = false ∧ isAlarm new = true then orderUnload (.handBack .alarm) s
  else if isAlarm new then s
  else recomputeUnderLoad s

/-! ## Steps an expiry makes due -/

/-- MEASUREMENT LOSS: the status having become LOST, the engine unloads or its purpose turns to FAULT (R98). -/
def takeMeasurementLoss (s : State) : State :=
  if s.engine.lossDue then
    orderUnload (.fault .measurementLost) (onEngine (fun e => { e with lossDue := false }) s)
  else s

/-- The wanted step: the target in RAMP and RUN, 0 in UNLOAD (R94). -/
def wantedStep (e : Engine) : Nat := if e.state = .unload then 0 else e.target

/-- RAMP STEP: the ramp count having reached the ramp interval, it returns to 0 and the present step moves at most one
step toward the wanted step; a change of it breaks the settle run and, in RAMP or RUN, restarts the settle timer
(R94, R95). -/
def takeRampStep (s : State) : State :=
  let e := s.engine
  if (e.state = .ramp ∨ e.state = .run ∨ e.state = .unload) ∧ s.cfg.rampInterval ≤ e.rampCount then
    let w := wantedStep e
    let k := if e.present < w then e.present + 1 else if w < e.present then e.present - 1 else e.present
    if k = e.present then s.withEngine { e with rampCount := 0 }
    else s.withEngine { e.setPresent k with
      rampCount := 0
      settleRun := 0
      settleTimer := if e.state = .unload then e.settleTimer else some s.cfg.settleTimeout }
  else s

/-- UNLOAD COMPLETE: the zero run having reached the settle count, the engine acts by the purpose (R103). -/
def takeUnloadComplete (s : State) : State :=
  if s.engine.state = .unload ∧ s.cfg.settleCount ≤ s.engine.zeroRun then
    match s.engine.purpose with
    | some (.handBack r) => raise .dischargeEnd (handBack (endNote (.handedBack r) s))
    | some (.fault c) => enterFault c s
    | _ =>
      onEngine (fun e => { (e.enter .rest).setPresent 0 with
        restTimer := some (100 * s.cfg.restTime)
        restRun := 0 }) s
  else s

/-- REST CURRENT FAULT: the rest current run having reached the settle count in REST (R104). -/
def takeRestCurrentFault (s : State) : State :=
  if s.engine.state = .rest ∧ s.cfg.settleCount ≤ s.engine.restRun then
    beginUnload (.fault .loadDeviation) s
  else s

/-- The bound of an unload: 63 ramp intervals and the settle timeout (R109). -/
def unloadBound (s : State) : Nat := 63 * s.cfg.rampInterval + s.cfg.settleTimeout

/-- LOAD STUCK: the unload count having passed its bound, the contactor opens and the engine enters ISOLATE (R109). -/
def takeLoadStuck (s : State) : State :=
  if s.engine.state = .unload ∧ unloadBound s < s.engine.unloadCount then
    raise .dischargeFault (onEngine (fun e => { (e.enter .isolate).setPresent 0 with
      faultCause := some .loadStuck
      purpose := none
      checkTimer := some 50 }) s)
  else s

/-- SETTLE TIMEOUT: the settle timer having expired in RAMP or RUN (R96). -/
def takeSettleTimeout (s : State) : State :=
  if (s.engine.state = .ramp ∨ s.engine.state = .run) ∧ s.engine.settleTimer = some 0 then
    beginUnload (.fault .loadDeviation) s
  else s

/-- The pass of a release test (R105): DONE and at once IDLE, the record READY, its energy to the tally. -/
def releasePack (r : PackRecord) (s : State) : State :=
  let s1 := updateRecord r.id (fun x => { x.into .ready with data := addHistory s.cfg.station .discharged x.data }) s
  raise .dischargeEnd
    (enterIdle (endNote .done (addDischarged r.data.eDis (raise .recordReady s1))))

/-- The failure of a release test (R105): a new round, or STUBBORN at the fourth. -/
def failRound (r : PackRecord) (s : State) : State :=
  let s1 := updateRecord r.id (fun x => { x with data := { x.data with rounds := x.data.rounds + 1 } }) s
  if r.data.rounds + 1 < 4 then enterRamp s1
  else enterFault .stubborn
    (updateRecord r.id (fun x => { x with data := { x.data with marks := { x.data.marks with stubborn := true } } }) s1)

/-- REST TIMER EXPIRY: the residual is computed from the last valid V and the release test decides (R105, R123). REST
is entered with a bound record and a last valid reading; without them nothing is computed. -/
def takeRestTimerExpiry (s : State) : State :=
  if s.engine.state = .rest ∧ s.engine.restTimer = some 0 then
    let s0 := onEngine (fun e => { e with restTimer := none }) s
    match boundRecord s0, s0.engine.lastValid with
    | some r, some m =>
      let s1 := computeResidual m.v r s0
      if releasePasses m.v r s0 then releasePack r s1 else failRound r s1
    | _, _ => s0
  else s

/-- The CONNECT check (R91): current at step 0, reversed polarity, a cell voltage out of range, or RAMP. -/
def connectCheck (m : Reading) (r : PackRecord) (s : State) : State :=
  let vc := cellVoltage m.v r.data.cells
  let c := curveOf s r.data.chemistry
  if s.cfg.zeroThreshold ≤ m.i.natAbs then enterFault .loadStuck s
  else if m.v < 0 then
    enterFault .polarity (updateBound (fun p => { p with marks := { p.marks with polarity := true } }) s)
  else if vc < c.cellMin ∨ c.cellMax < vc then
    enterFault .voltage (updateBound (fun p => { p with marks := { p.marks with voltage := true } }) s)
  else enterRamp s

end Sys2Proof.Machine
end

