-- ==== Sys2Proof/Machine/AtmosphereOps.lean ====
section
/-! DEFINITION. The Atmosphere Unit and the feed interlock: sensors (R129, R130), states and outputs (R132 to R137,
R141, R142), supply (R139, R140) and the feed permit (R145). -/

namespace Sys2Proof.Machine

open Sys2Proof

/-! ## The feed permit -/

/-- The FEEDING record. -/
def feedingRecord (s : State) : Option PackRecord := s.store.records.find? (fun r => decide (r.state = .feeding))

/-- The oldest HELD record. -/
def oldestHeld (s : State) : Option PackRecord := s.store.records.find? (fun r => decide (r.state = .held))

/-- The atmosphere allows feeding: INERT or WATCH (R145). -/
def atmosphereFeeds (s : State) : Bool := decide (s.atm.state = .inert ∨ s.atm.state = .watch)

/-- The feed note is replaced. -/
def feedNote (id : PackId) (o : FeedOutcome) (s : State) : State :=
  s.withAtm { s.atm with feedNote := some { packId := id, outcome := o } }

/-- An asserted feed permit drops; with a record FEEDING the note tells the condition that failed (R145). -/
def dropFeed (c : PermitLoss) (s : State) : State :=
  if s.atm.feedPermit then
    let s1 := s.withAtm { s.atm with feedPermit := false }
    match feedingRecord s with
    | some r => feedNote r.id (.permitLost c) s1
    | none => s1
  else s

/-! ## Sensors (R129, R130) -/

/-- Whether a reading is a value from 0 to 2500. -/
def o2Healthy (reading : Option Nat) : Bool := reading.any (fun r => decide (r ≤ 2500))

/-- The effective O2 of two readings, or sensor loss. -/
def effectiveO2 (a b : Option Nat) : Option Nat :=
  match o2Healthy a, o2Healthy b with
  | true, true => some (max (a.getD 0) (b.getD 0))
  | true, false => a
  | false, true => b
  | false, false => none

/-- The sensors are judged from the current sample set at a CHAMBER, and the effective O2 handed to the Tally Unit. The last
reading of a sensor is its newest that carried a value (DESIGN CHOICE, log entry 52). -/
def judgeSensors (s : State) : State :=
  if s.cfg.role = .chamber then
    let a := s.bank.current.bind (fun x => x.o2A)
    let b := s.bank.current.bind (fun x => x.o2B)
    tallyPeak (s.withAtm { s.atm with
      healthyA := o2Healthy a
      healthyB := o2Healthy b
      readingA := if a.isSome then a else s.atm.readingA
      readingB := if b.isSome then b else s.atm.readingB
      effective := effectiveO2 a b })
  else s

/-! ## States -/

/-- The unit in a state, its valve outputs following (R141). -/
def Atmosphere.enter (st : AtmState) (a : Atmosphere) : Atmosphere :=
  { a with
    state := st
    purgeValve := decide (st = .purging)
    makeUpValve := decide (st = .purging ∨ st = .inert ∨ st = .watch)
    boost := decide (st = .watch) }

/-- The atmosphere note is replaced and ATMOSPHERE CHANGE raised (R142). -/
def noteAtm (c : AtmNoteCause) (s : State) : State :=
  raise .atmosphereChange (s.withAtm { s.atm with note := some { state := s.atm.state, cause := c } })

/-- A change of atmosphere state: the outputs follow, and the new state is handed to the Pack Store, the feed interlock
and the Tally Unit (R141, R142, R145, R179, R181). -/
def changeAtm (st : AtmState) (c : AtmNoteCause) (s : State) : State :=
  let s1 := refreshStore (s.withAtm (s.atm.enter st))
  let s2 := if st = .inert ∨ st = .watch then s1 else dropFeed .atmosphere s1
  let s3 := if st = .watch then tallyWatch s2 else if st = .trip then closeLot .atmosphere s2 else s2
  noteAtm c s3

/-- The purge timer stops. -/
def stopPurgeTimer (s : State) : State := s.withAtm { s.atm with purgeTimer := none }

/-- Entry into TRIP (R135). -/
def enterTrip (c : TripCause) (s : State) : State :=
  changeAtm .trip (.trip c) (stopPurgeTimer (s.withAtm { s.atm with tripCause := c }))

/-- Entry into PURGING from OPEN or TRIP (R132). -/
def enterPurging (s : State) : State :=
  changeAtm .purging .purgeRequested (s.withAtm { s.atm with
    attempts := 1
    purgeTimer := some s.cfg.purgeMax
    tripCause := .none })

/-- Entry into OPEN when the door has opened (R137). -/
def enterOpen (s : State) : State :=
  let c : AtmNoteCause := if s.atm.state = .trip then .doorOpened else .doorBreach
  changeAtm .opened c (s.withAtm { s.atm with attempts := 0, purgeTimer := none })

/-- Both supplies report low. -/
def bothSuppliesLow (s : State) : Bool := channelOut s 14 && channelOut s 15

/-- The trip condition of INERT and WATCH: the first cause that holds (R135). -/
def tripCondition (s : State) : Option TripCause :=
  if channelOut s 12 then some .o2High
  else if !s.atm.healthyA && !s.atm.healthyB then some .sensorLoss
  else if bothSuppliesLow s then some .supplyLost
  else none

/-- The watch condition: the first cause that holds (R134). -/
def watchCondition (s : State) : Option AtmNoteCause :=
  if channelOut s 11 then some .o2Watch
  else if s.atm.healthyA != s.atm.healthyB then some .sensor
  else if channelOut s 13 then some .disagree
  else none

/-- The tests of INERT and WATCH: R135, and if the chamber has not tripped, R134. -/
def testInert (s : State) : State :=
  if s.atm.state = .inert ∨ s.atm.state = .watch then
    match tripCondition s with
    | some c => enterTrip c s
    | none =>
      match watchCondition s with
      | some c => if s.atm.state = .inert then changeAtm .watch c s else s
      | none => if s.atm.state = .watch then changeAtm .inert .cleared s else s
  else s

/-- The tests of PURGING: SUPPLY LOST under R135, else completion under R136. The tests R136 makes on the new INERT
state are those of `testInert`, which follows in the same handling. -/
def testPurging (s : State) : State :=
  if s.atm.state = .purging then
    if bothSuppliesLow s then enterTrip .supplyLost s
    else if channelOut s 10 && (s.atm.healthyA || s.atm.healthyB) then
      changeAtm .inert .purgeDone (stopPurgeTimer s)
    else s
  else s

/-- The supply state changes: the supply select follows, the note is replaced by the cause alone (log
entry 57), SUPPLY CHANGE raised (R139). -/
def changeSupply (x : Supply) (n : SupplyNote) (s : State) : State :=
  raise .supplyChange (s.withAtm { s.atm with supply := x, supplySelect := x, supplyNote := some n })

/-- The supply state and the both-low latch at a handover (R139, R140). -/
def takeSupply (s : State) : State :=
  let p := channelOut s 14
  let r := channelOut s 15
  if p && r then
    if s.atm.bothLow then s
    else raise .supplyChange (s.withAtm { s.atm with bothLow := true, supplyNote := some .bothLow })
  else
    let s1 := s.withAtm { s.atm with bothLow := false }
    if s.atm.supply = .primary ∧ p = true then changeSupply .reserve .toReserve s1
    else if s.atm.supply = .reserve ∧ p = false ∧ (s.cfg.revert = true ∨ r = true) then
      changeSupply .primary .toPrimary s1
    else s1

/-- The Atmosphere Unit at a handover of the filter change at a CHAMBER: door, supply, PURGING, INERT and WATCH, in
this order (R138). -/
def atmosphereHandover (s : State) : State :=
  if s.cfg.role = .chamber then
    if channelOut s 7 then testInert (testPurging (takeSupply s))
    else takeSupply (if s.atm.state = .opened then s else enterOpen s)
  else s

end Sys2Proof.Machine
end

