-- ==== Sys2Proof/Machine/ZoneOps.lean ====
section
/-! DEFINITION. The Zone Unit: strict mode (R150, R151), the confirming condition and the rising evaluation (R152 to
R154), members (R155), confirmation (R157 to R159), the fall of PREALARM and the countdown (R160 to R162), and what a
change of level does (R165, R166). -/

namespace Sys2Proof.Machine

open Sys2Proof

/-! ## A change of level -/

/-- The ALARM frame of the level as it stands (R165). A level other than the start value has a cause. -/
def ownAlarm (s : State) : AlarmFrame :=
  { station := s.cfg.station, zone := s.cfg.zone, level := s.zone.level, testFlag := s.zone.testFlag,
    cause := s.zone.cause.getD .heat }

/-- ZONE CHANGE is raised and the zone note replaced (R166). -/
def noteZone (o : Origin) (s : State) : State :=
  raise .zoneChange (s.withZone { s.zone with
    note := some { level := s.zone.level, testFlag := s.zone.testFlag, cause := s.zone.cause, origin := o } })

/-- The zone with another level: entry into COUNTDOWN sets the release delay count and runs the countdown, entry into
RELEASED asserts suppression, and leaving COUNTDOWN stops the countdown; its count is discarded at NORMAL (R161 to
R163). -/
def Zone.atLevel (l : ZoneLevel) (flag : Bool) (cause : Option ZoneCause) (delay : Nat) (z : Zone) : Zone :=
  { z with
    level := l
    testFlag := flag
    cause := cause
    releaseCount := if l = .countdown then 100 * delay else if l = .released then z.releaseCount else 0
    countdown := decide (l = .countdown)
    endDue := false
    suppression := if l = .released then true else z.suppression }

/-- The Pack Store's part of a change of level: the cancels of a rise to an ALARM level, and the transfer permit
(R74, R80). -/
def storeTakesLevel (old new : ZoneLevel) (s : State) : State :=
  if isAlarm old = false ∧ isAlarm new = true then zoneAlarmCancel s else refreshStore s

/-- The Tally Unit's part of a change of level: a rise to an ALARM level closes the open lot (R179). -/
def tallyTakesLevel (old new : ZoneLevel) (s : State) : State :=
  if isAlarm old = false ∧ isAlarm new = true then closeLot .alarm s else s

/-- A change of the own level: an ALARM frame is placed, the engine, the Pack Store, the feed interlock and the Tally
Unit are handed the level, ZONE CHANGE is raised and the note replaced (R165, R166). -/
def changeLevel (l : ZoneLevel) (flag : Bool) (cause : Option ZoneCause) (o : Origin) (s : State) : State :=
  let old := s.zone.level
  let s1 := s.withZone (s.zone.atLevel l flag cause s.cfg.releaseDelay)
  let s2 := placeAlarm (ownAlarm s1) s1
  let s3 := storeTakesLevel old l (engineTakesLevel old l s2)
  let s4 := if l = .normal then s3 else dropFeed .zone s3
  noteZone o (tallyTakesLevel old l s4)

/-- A rise to ALARM CONFIRMED, taken as COUNTDOWN where the station owns the suppression output; nothing at or above
ALARM CONFIRMED (R157). -/
def confirmRise (cause : ZoneCause) (o : Origin) (s : State) : State :=
  if 3 ≤ levelRank s.zone.level then s
  else changeLevel (if s.cfg.suppressionOwned then .countdown else .alarmConfirmed) false (some cause) o s

/-! ## Own detectors -/

/-- The detectors SET and real: without the TEST mark (R149). -/
def realDetectors (s : State) : List Nat :=
  [1, 2, 3, 4].filter (fun n => channelOut s n && !(at1 {} s.bank.channels n).mark)

/-- The detectors SET, real or test. -/
def setDetectors (s : State) : List Nat := [1, 2, 3, 4].filter (channelOut s)

/-- The configured kind of a detector. -/
def detectorKind (s : State) (n : Nat) : DetectorKind := at1 .absent s.cfg.detectorKinds n

/-- The zone cause of a detector kind; the kind NONE never presents a SET output. -/
def kindCause : DetectorKind → ZoneCause
  | .heat => .heat | .gas => .gas | .spark => .spark | .flame => .flame | .absent => .heat

/-- The cause of a rise by the own detectors: the kind of the lowest-numbered real detector SET, or, with none real,
of the lowest-numbered test detector SET (R158). -/
def ownCause (s : State) : ZoneCause :=
  kindCause (detectorKind s ((realDetectors s ++ setDetectors s).headD 1))

/-- Whether some member of the own zone has an effective level of PREALARM or above (R152). -/
def memberWitness (s : State) : Bool := (members s).any (fun n => decide (1 ≤ levelRank (s.peer n).effectiveLevel))

/-- The confirming condition; `witness` is a second witness present for the moment (R152, R156). -/
def confirming (witness : Bool) (s : State) : Bool :=
  (realDetectors s).any (fun a => (realDetectors s).any (fun b => decide (detectorKind s a ≠ detectorKind s b)))
    || (!(realDetectors s).isEmpty && (witness || memberWitness s))

/-! ## Strict mode (R150, R151) -/

/-- The own strict request and strict in force formed afresh. -/
def refreshStrict (s : State) : State :=
  let own := s.zone.strictCommand || decide (0 < s.zone.grade2) || decide (0 < s.zone.hot)
    || decide (s.bank.healthy < 2)
  s.withZone { s.zone with
    ownStrict := own
    strictInForce := own || (members s).any (fun n => (s.peer n).effectiveStrict) }

/-! ## The rising evaluation (R153, R154) -/

/-- The level demanded by the standing inputs. -/
def demanded (s : State) : ZoneLevel :=
  if confirming false s then .alarmConfirmed
  else if !(realDetectors s).isEmpty && s.zone.strictInForce then .alarmUnconfirmed
  else if !(setDetectors s).isEmpty then .prealarm
  else .normal

/-- The test flag clears while the level stays PREALARM: published and noted (R154, R165, R166). -/
def clearTestFlag (s : State) : State :=
  let s1 := s.withZone { s.zone with testFlag := false }
  noteZone .own (placeAlarm (ownAlarm s1) s1)

/-- The rising evaluation: the own level rises to the demanded level; at PREALARM with the test flag set a real
detector clears the flag. -/
def risingEvaluation (s : State) : State :=
  let d := demanded s
  if levelRank s.zone.level < levelRank d then
    if d = .alarmConfirmed then confirmRise (ownCause s) .own s
    else changeLevel d (decide (d = .prealarm) && (realDetectors s).isEmpty) (some (ownCause s)) .own s
  else if s.zone.level = .prealarm ∧ s.zone.testFlag = true ∧ (realDetectors s).isEmpty = false then clearTestFlag s
  else s

/-- Strict in force is formed afresh, and a change of it makes the rising evaluation (R151, R153). -/
def strictChanged (s : State) : State :=
  let s1 := refreshStrict s
  if s1.zone.strictInForce ≠ s.zone.strictInForce then risingEvaluation s1 else s1

/-- The Zone Unit is told of the records of the store: its counts of grade 2 and HOT follow (R150). -/
def zoneTakesStore (s : State) : State :=
  strictChanged (s.withZone { s.zone with
    grade2 := s.store.records.countP (fun r => decide (r.data.grade = 2))
    hot := s.store.records.countP (fun r => r.data.marks.hot) })

/-! ## Members (R155) -/

/-- A member has risen to a level: the own level is raised with the cause PEER (R155, R156). -/
def memberRise (l : ZoneLevel) (o : Origin) (s : State) : State :=
  if 3 ≤ levelRank l then confirmRise .peer o s
  else if l = .alarmUnconfirmed ∧ levelRank s.zone.level < 2 then
    changeLevel .alarmUnconfirmed false (some .peer) o s
  else s

/-- The level a station counts for: a member's effective level, NORMAL for a station that is no member (R155). -/
def memberLevel (s : State) (n : Nat) : ZoneLevel := if isMember s n then (s.peer n).effectiveLevel else .normal

/-- A peer's effective values and membership are handed to the Zone Unit: the taken level, the member's rise, strict in
force, and the rising evaluation (R34, R151, R153, R155). -/
def peerHandover (n : Nat) (s : State) : State :=
  let l := memberLevel s n
  let old := at1 .normal s.zone.taken n
  let s1 := s.withZone { s.zone with taken := set1 s.zone.taken n l }
  let s2 := if levelRank old < levelRank l then memberRise l (.peer n none) s1 else s1
  risingEvaluation (refreshStrict s2)

/-! ## The filter handover -/

/-- The countdown at a handover that found the level COUNTDOWN: ABORT pauses it, else the count falls, and at 0 the
countdown has ended (R161). A paused countdown still runs (DESIGN CHOICE, log entry 59). -/
def takeCountdown (s : State) : State :=
  if channelOut s 8 then s
  else s.withZone { s.zone with
    releaseCount := s.zone.releaseCount - 1
    endDue := decide (s.zone.releaseCount - 1 = 0) }

/-- The Zone Unit at a filter handover: strict, countdown, rising evaluation, fall of PREALARM (R150, R153, R160,
R161). -/
def zoneHandover (s : State) : State :=
  let s1 := refreshStrict s
  let s2 := if s.zone.level = .countdown then takeCountdown s1 else s1
  let s3 := risingEvaluation s2
  if s3.zone.level = .prealarm ∧ (setDetectors s3).isEmpty = true then
    changeLevel .normal false s3.zone.cause .own s3
  else s3

/-- COUNTDOWN END: the countdown having ended, the level becomes RELEASED and suppression is asserted (R161, R162); the
origin in the note is OWN (DESIGN CHOICE, log entry 53). -/
def takeCountdownEnd (s : State) : State :=
  if s.zone.level = .countdown ∧ s.zone.endDue = true then
    changeLevel .released false s.zone.cause .own s
  else s

/-- ISOLATION FAILED is told to the Zone Unit: the latch is set and the level confirmed ELECTRICAL (R159). -/
def isolationAlarm (s : State) : State :=
  confirmRise .electrical .own (s.withZone { s.zone with isolationLatch := true })

/-! ## The isolation check of the engine (R110) -/

/-- ISOLATION FAILED (R110). -/
def isolationFailed (s : State) : State :=
  let s1 := updateBound (fun p => addHistory s.cfg.station .faulted
    { p with marks := { p.marks with isolation := true } }) s
  raise .dischargeFault (endNote .isolationFailed (isolationAlarm s1))

/-- The check in ISOLATE: the current gone, shown by a last valid reading of a status VALID or HELD, leads to FAULT;
anything else is ISOLATION FAILED (R110). -/
def isolateCheck (s : State) : State :=
  match s.engine.lastValid with
  | some m =>
    if s.engine.status ≠ .lost ∧ m.i.natAbs < s.cfg.zeroThreshold then enterFault .loadStuck s else isolationFailed s
  | none => isolationFailed s

/-- CONTACTOR CHECK EXPIRY: the checks of CONNECT and of ISOLATE (R91, R110). CONNECT is entered with a bound record and
a last valid reading; without them the timer stops and nothing is checked. -/
def takeContactorCheck (s : State) : State :=
  if s.engine.checkTimer = some 0 then
    let s0 := onEngine (fun e => { e with checkTimer := none }) s
    if s.engine.state = .connect then
      match boundRecord s0, s0.engine.lastValid with
      | some r, some m => connectCheck m r s0
      | _, _ => s0
    else if s.engine.state = .isolate then isolateCheck s0
    else s0
  else s

end Sys2Proof.Machine
end

