-- ==== Sys2Proof/Machine/PeerOps.lean ====
section
/-! DEFINITION. The Peer Table: outcomes and step tests (R27, R28), restart (R30), judging a JOIN (R22), frames from a
station not ADMITTED (R24), taking a STATE (R26, R37, R38), the examination of SET ADMISSION (R25), and the own STATE
(R35, R36). -/

namespace Sys2Proof.Machine

open Sys2Proof

/-! ## Outcomes -/

/-- The step state after an outcome has joined the window (R28). -/
def stepAfter (o : Arrival) (window : List Arrival) (step : StepState) : StepState :=
  match o with
  | .hit => if window.take 4 = [.hit, .hit, .hit, .hit] then .inStep else step
  | .miss => if 3 ≤ window.count .miss then .outOfStep else step

/-- One outcome is recorded: it joins the window at its newest end, the oldest of nine leaves, and the step test follows
(R27, R28). -/
def PeerEntry.record (o : Arrival) (c : ArrivalCause) (e : PeerEntry) : PeerEntry :=
  let w := (o :: e.window).take 8
  { e with window := w, newestCause := some c, step := stepAfter o w e.step }

/-- The distance of a sequence number from the last one (R26). -/
def sequenceDistance (sequence last : Nat) : Nat := (sequence + 16 - last) % 16

/-- The outcomes of a STATE taken: by its distance d, d − 1 MISS and one HIT; none at distance 0; one HIT with no last
sequence (R26). -/
def stateOutcomes (sequence : Nat) (last : Option Nat) : List Arrival :=
  match last with
  | none => [.hit]
  | some l =>
    let d := sequenceDistance sequence l
    if d = 0 then [] else List.replicate (d - 1) .miss ++ [.hit]

/-- The published values of a STATE. -/
def publishedOf (f : StateFrame) : Published :=
  { level := f.level, testFlag := f.testFlag, strict := f.strict, healthy := f.healthy, atmosphere := f.atmosphere,
    supply := f.supply, allowance := f.allowance, freePlaces := f.freePlaces, heldCount := f.heldCount,
    consumedCount := f.consumedCount, openLot := f.openLot, echo := f.echo, unheard := f.unheard,
    overflow := f.overflow }

/-- The entry of a station whose STATE is taken: outcomes, last sequence, published values, silence timer for 1.5 P
(R26, steps 1 to 4). -/
def PeerEntry.takeState (f : StateFrame) (e : PeerEntry) : PeerEntry :=
  let e1 := (stateOutcomes f.sequence e.lastSequence).foldl (fun e o => e.record o .sequence) e
  { e1 with lastSequence := some f.sequence, published := some (publishedOf f), silenceTimer := some 3 }

/-! ## Changes of an entry -/

/-- An entry with nothing known of its step: SEEKING, empty window, no published values, silence timer stopped, heard
flag clear (R22, R25, R30). -/
def PeerEntry.afresh (e : PeerEntry) : PeerEntry :=
  { e with
    step := .seeking
    window := []
    newestCause := none
    lastSequence := none
    published := none
    silenceTimer := none
    heard := false }

/-- An entry heard while not ADMITTED: heard flag set, silence timer for 1.5 P (R22, R24, R29). -/
def PeerEntry.nowHeard (e : PeerEntry) : PeerEntry := { e with heard := true, silenceTimer := some 3 }

/-- The discard count of a station rises (R23, R24, R26, R33). -/
def countDiscard (n : Nat) (s : State) : State :=
  s.setPeer n { s.peer n with discards := satSucc 65535 (s.peer n).discards }

/-- A good frame from a station not ADMITTED is counted (R24). -/
def countUnadmitted (n : Nat) (s : State) : State :=
  s.setPeer n { (s.peer n).nowHeard with discards := satSucc 65535 (s.peer n).discards }

/-- A frame of the Pack Store or the Zone Unit: taken from an ADMITTED sender, else counted and discarded (R24). -/
def fromAdmitted (n : Nat) (act : State → State) (s : State) : State :=
  if (s.peer n).admission = .admitted then act s else countUnadmitted n s

/-- A peer restart (R30): the entry, the exchanges (R81), PEER CHANGE, and the handover (R34). That the exchanges end before
the handover is the model's order (DESIGN CHOICE, log entry 51). -/
def peerRestart (n epoch : Nat) (s : State) : State :=
  let e := { (s.peer n).afresh with admission := .unknown, recordedEpoch := some epoch }
  peerHandover n (peerChange .restart n (endExchanges n (s.setPeer n e)))

/-! ## JOIN -/

/-- Whether a unique ID is on the allow list. -/
def onAllowList (s : State) (id : UniqueId) : Bool := s.cfg.allowList.contains id

/-- The judgement of a JOIN for an entry not ADMITTED: the reason of refusal, or none for admission (R22). -/
def judgeJoin (f : JoinFrame) (s : State) : Option AdmissionRefusal :=
  if f.periodCode ≠ s.cfg.periodCode then some .periodMismatch
  else if (s.peer f.station).recordedId.any (fun id => decide (id ≠ f.uniqueId)) then some .clash
  else match s.peers.mode with
    | .opened => none
    | .listed => if onAllowList s f.uniqueId then none else some .notListed
    | .closed =>
      if s.peers.windowOpen then (if onAllowList s f.uniqueId then none else some .notListed) else some .closed

/-- The entry that a JOIN admits (R22). -/
def PeerEntry.admitJoin (f : JoinFrame) (e : PeerEntry) : PeerEntry :=
  { e.afresh with
    admission := .admitted
    recordedId := some (e.recordedId.getD f.uniqueId)
    recordedRole := some f.role
    recordedZone := some f.zone
    recordedPeriod := some f.periodCode
    recordedEpoch := some f.epoch }

/-- The entry that refuses a JOIN (R22). -/
def PeerEntry.refuse (r : AdmissionRefusal) (f : JoinFrame) (e : PeerEntry) : PeerEntry :=
  { e.nowHeard with
    admission := .refused r
    recordedEpoch := some f.epoch
    clashFlag := e.clashFlag || decide (r = .clash) }

/-- A JOIN for an entry not ADMITTED is judged and taken (R22, R34, R39). -/
def takeNewJoin (f : JoinFrame) (s : State) : State :=
  match judgeJoin f s with
  | none => peerHandover f.station (peerChange .admitted f.station (s.setPeer f.station ((s.peer f.station).admitJoin f)))
  | some r =>
    peerHandover f.station (peerChange (.refused r) f.station (s.setPeer f.station ((s.peer f.station).refuse r f)))

/-- A JOIN for an ADMITTED entry: a clash, a repeat or a restart (R23). -/
def takeAdmittedJoin (f : JoinFrame) (s : State) : State :=
  let e := s.peer f.station
  if e.recordedId ≠ some f.uniqueId then
    peerChange (.refused .clash) f.station (s.setPeer f.station { e with clashFlag := true })
  else if e.recordedEpoch = some f.epoch then
    if e.recordedRole = some f.role ∧ e.recordedZone = some f.zone ∧ e.recordedPeriod = some f.periodCode then s
    else countDiscard f.station s
  else takeNewJoin f (peerRestart f.station f.epoch s)

/-- A good JOIN (R22, R23). -/
def takeJoin (f : JoinFrame) (s : State) : State :=
  if (s.peer f.station).admission = .admitted then takeAdmittedJoin f s else takeNewJoin f s

/-! ## STATE -/

/-- Every good STATE is examined for the own number in its unheard list, at most once per own period for each of the
three kinds of finding (R37). -/
def examineUnheard (f : StateFrame) (s : State) : State :=
  match f.unheard.find? (fun x => decide (x.station = s.cfg.station)) with
  | none => s
  | some x =>
    match x.reason with
    | .unadmitted =>
      if s.start.phase = .running ∧ s.peers.joinLimit = false then
        placeJoin (ownJoin s) (s.withPeers { s.peers with joinLimit := true })
      else s
    | .silent =>
      if s.peers.notHeardLimit then s else raise .notHeard (s.withPeers { s.peers with notHeardLimit := true })
    | .skipping =>
      if s.peers.notHeardLimit then s else raise .notHeard (s.withPeers { s.peers with notHeardLimit := true })
    | .clash =>
      if s.peers.clashListedLimit then s
      else peerChange .clashListed f.station (s.withPeers { s.peers with clashListedLimit := true })

/-- The echo sum (R38). -/
def echoSum (p : PeerTable) : Nat := p.echo.sum

/-- An echo is added to the current bucket; a sum above 64 with the hold-off at 0 raises LINE ERRORS (R38). -/
def addEcho (echo : Nat) (s : State) : State :=
  let p := { s.peers with echo := (s.peers.echo.headD 0 + echo) :: s.peers.echo.tail }
  if 64 < echoSum p ∧ p.holdOff = 0 then raise .lineErrors (s.withPeers { p with holdOff := 8 })
  else s.withPeers p

/-- A STATE of an ADMITTED peer under its recorded epoch, role, zone and period code is taken (R26, R34). -/
def takePeerState (f : StateFrame) (s : State) : State :=
  let s1 := s.setPeer f.station ((s.peer f.station).takeState f)
  let s2 := if (s1.peer f.station).step = .inStep then addEcho f.echo s1 else s1
  peerHandover f.station s2

/-- A good STATE (R24, R26, R37). -/
def takeState (f : StateFrame) (s : State) : State :=
  let s0 := examineUnheard f s
  let e := s0.peer f.station
  if e.admission = .admitted then
    if e.recordedEpoch ≠ some f.epoch then countUnadmitted f.station (peerRestart f.station f.epoch s0)
    else if e.recordedRole = some f.role ∧ e.recordedZone = some f.zone ∧ e.recordedPeriod = some f.periodCode then
      takePeerState f s0
    else countDiscard f.station s0
  else countUnadmitted f.station s0

/-! ## SET ADMISSION -/

/-- One ADMITTED entry is examined against the allow list (R25); the exchanges end before the handover (DESIGN CHOICE, log
entry 51). -/
def examineListed (n : Nat) (s : State) : State :=
  let e := s.peer n
  if e.admission = .admitted ∧ e.recordedId.any (onAllowList s) = false then
    peerHandover n (peerChange (.refused .notListed) n
      (endExchanges n (s.setPeer n { e.afresh with admission := .refused .notListed })))
  else s

/-- The examination of every entry (R25), in increasing station order (DESIGN CHOICE, log entry 50). -/
def examineAllListed (s : State) : State := stationNumbers.foldl (fun s n => examineListed n s) s

/-! ## The own STATE -/

/-- The reason with which an entry qualifies for the unheard list, if it does (R36). -/
def unheardReason (e : PeerEntry) : Option UnheardReason :=
  if e.clashFlag = true ∨ e.admission = .refused .clash then some .clash
  else if e.admission = .admitted then
    if e.step = .outOfStep then
      if e.newestCause = some .silence then some .silent else some .skipping
    else none
  else if e.heard then some .unadmitted
  else none

/-- The entries that qualify, in station order (R36). -/
def qualifying (s : State) : List UnheardEntry :=
  stationNumbers.filterMap (fun n => (unheardReason (s.peer n)).map (fun r => { reason := r, station := n }))

/-- The number of the open lot, or 0 (R182). -/
def openLotNumber (s : State) : Nat := (s.tally.openLot.map (fun l => l.number)).getD 0

/-- The own STATE as it is built; the Link Controller gives it its sequence and its echo (R35, R36, R182). -/
def ownState (s : State) : StateFrame :=
  let chamber := decide (s.cfg.role = .chamber)
  { station := s.cfg.station
    role := s.cfg.role
    zone := s.cfg.zone
    level := s.zone.level
    periodCode := s.cfg.periodCode
    epoch := s.start.epoch.getD 0
    strict := s.zone.ownStrict
    testFlag := s.zone.testFlag
    supply := if chamber then s.atm.supply else .primary
    healthy := s.bank.healthy
    atmosphere := if chamber then s.atm.state else .opened
    allowance := if chamber then s.store.allowance else 0
    freePlaces := freePlaces s
    heldCount := min 255 s.store.records.length
    consumedCount := s.tally.consumed.value % 65536
    openLot := if chamber then openLotNumber s else 0
    overflow := decide (8 < (qualifying s).length)
    unheard := (qualifying s).take 8 }

/-- The work of a period timer expiry in RUNNING: a STATE is built and placed, and the Pack Store examines its records
(R20, R35, R63). -/
def runningPeriod (s : State) : State := examineOffer (channelOut s 16) (placeState (ownState s) s)

/-- What every period timer expiry does: the count rises, the limits clear, the buckets and the hold-off advance, and the
quiet counts of refusal streaks rise (R20, R37, R38, R67). -/
def advancePeriod (s : State) : State :=
  let s1 := s.withStore { s.store with
    quiet := Vector.zipWith (fun e q => if 0 < e.streak then q + 1 else q) s.peers.entries s.store.quiet }
  s1.withPeers { s.peers with
    periodCount := satSucc 255 s.peers.periodCount
    joinLimit := false
    notHeardLimit := false
    clashListedLimit := false
    echo := 0 :: s.peers.echo.take 7
    holdOff := s.peers.holdOff - 1 }

end Sys2Proof.Machine
end

