-- ==== Sys2Proof/Machine/FilterOps.lean ====
section
/-! DEFINITION. The Filter Bank: sample sets (R41, R42), channel sources (R43 to R46), inputs and filters (R47 to R50),
forces and TEST marks (R53), change flags (R54), and TEST CHANNEL (R52). -/

namespace Sys2Proof.Machine

open Sys2Proof

/-! ## Sample sets -/

/-- The quantity in the `k` bytes from place `at'`, in two's complement. -/
def signedField (bs : List Byte) (at' k : Nat) : Int :=
  let v := field bs at' k
  if v < 256 ^ k / 2 then (v : Int) else (v : Int) - 256 ^ k

/-- A signed quantity within its range, or the fault marker (R41). -/
def ranged (lo hi v : Int) : Option Int := if lo ≤ v ∧ v ≤ hi then some v else none

/-- An unsigned quantity within its range, or the fault marker (R41). -/
def upTo (hi v : Nat) : Option Nat := if v ≤ hi then some v else none

/-- The quantities of a complete sample set (R41). -/
def sampleSetOf (bs : List Byte) : SampleSet :=
  { v := ranged (-100000) 100000 (signedField bs 1 3)
    i := ranged (-40000) 40000 (signedField bs 4 3)
    t := ranged (-400) 1500 (signedField bs 7 2)
    o2A := upTo 2500 (field bs 9 2)
    o2B := upTo 2500 (field bs 11 2)
    an1 := upTo 65000 (field bs 13 2)
    an2 := upTo 65000 (field bs 15 2)
    an3 := upTo 65000 (field bs 17 2)
    an4 := upTo 65000 (field bs 19 2) }

/-- Whether a burst of whole bytes and stray bits is a complete sample set (R41). -/
def completeSet (bs : List Byte) (strayBits : Nat) : Bool :=
  decide (bs.length = 23 ∧ strayBits = 0 ∧ field bs 0 1 = 0xA5
    ∧ field bs 21 2 = (frameCheck (bs.take 21)).toNat)

/-- The sample set of an expiry is taken (R42). -/
def takeSampleSet (b : FilterBank) : FilterBank :=
  match b.arrived with
  | some x => { b with current := some x, missing := 0, arrived := none }
  | none =>
    let m := satSucc 255 b.missing
    { b with missing := m, current := if 4 ≤ m then some {} else b.current }

/-! ## Sources -/

/-- Whether a channel is in use at a role (4.1, R43). -/
def channelUsed (role : Role) (n : Nat) : Bool :=
  if n = 5 ∨ n = 6 then decide (role = .bay)
  else if n = 7 ∨ 10 ≤ n ∧ n ≤ 15 then decide (role = .chamber)
  else if n = 16 then decide (role ≠ .chamber)
  else true

/-- A quantity of the current sample set; `none` while it reads as faulted or there is no set (R42). -/
def measured {α : Type} (s : State) (get : SampleSet → Option α) : Option α := s.bank.current.bind get

/-- The analog reading of a detector. -/
def analogReading (s : State) (n : Nat) : Option Nat :=
  if n = 1 then measured s (fun x => x.an1)
  else if n = 2 then measured s (fun x => x.an2)
  else if n = 3 then measured s (fun x => x.an3)
  else measured s (fun x => x.an4)

/-- The contact DIGITAL n. -/
def digital (c : Contacts) (n : Nat) : Bool :=
  if n = 1 then c.digital1 else if n = 2 then c.digital2 else if n = 3 then c.digital3 else c.digital4

/-- Whether a detector kind is analog (R44). -/
def analogKind : DetectorKind → Bool
  | .heat => true | .gas => true | .spark => false | .flame => false | .absent => false

/-- Whether a detector is in FAULT by the current sample set (R44). -/
def detectorFaulted (s : State) (n : Nat) : Bool :=
  analogKind (detectorKind s n) && (analogReading s n).isNone

/-- Whether a detector is healthy (R44). -/
def detectorHealthy (s : State) (n : Nat) : Bool :=
  decide (detectorKind s n ≠ .absent) && !detectorFaulted s n

/-- The source of a detector channel; `none` for the kind NONE and in FAULT (R44). -/
def detectorSource (s : State) (n : Nat) : Option Bool :=
  match detectorKind s n with
  | .heat => (analogReading s n).map (fun v => decide (at1 0 s.cfg.thresholds n ≤ v))
  | .gas => (analogReading s n).map (fun v => decide (at1 0 s.cfg.thresholds n ≤ v))
  | .spark => some (digital s.bank.contacts n)
  | .flame => some (digital s.bank.contacts n)
  | .absent => none

/-- The peer entry of the default destination. -/
def defaultEntry (s : State) : PeerEntry := s.peer (s.cfg.defaultDestination.getD 0)

/-- The source of DIVERT (R46). -/
def divertTruth (s : State) : Bool :=
  match s.cfg.divertSource with
  | .alwaysFalse => false
  | .alwaysTrue => true
  | .digital1 => digital s.bank.contacts 1
  | .digital2 => digital s.bank.contacts 2
  | .digital3 => digital s.bank.contacts 3
  | .digital4 => digital s.bank.contacts 4
  | .destinationSilent => !(defaultEntry s).followed
  | .destinationRefusing => decide (3 ≤ (defaultEntry s).streak)

/-- O2 DISAGREE: formed while both sensors are healthy (R45). -/
def o2Disagree (s : State) : Option Bool :=
  if s.atm.healthyA && s.atm.healthyB then
    match measured s (fun x => x.o2A), measured s (fun x => x.o2B) with
    | some a, some b => some (decide (s.cfg.disagreeLimit < max a b - min a b))
    | _, _ => none
  else none

/-- The truth value of a channel's source; `none` where the channel is unused or its source faulted (R43 to R47). -/
def channelSource (s : State) (n : Nat) : Option Bool :=
  if channelUsed s.cfg.role n then
    if n ≤ 4 then detectorSource s n
    else if n = 5 then (measured s (fun x => x.t)).map (fun t => decide (s.cfg.derateTemp ≤ t))
    else if n = 6 then (measured s (fun x => x.t)).map (fun t => decide (s.cfg.stopTemp ≤ t))
    else if n = 7 then some s.bank.contacts.door
    else if n = 8 then some s.bank.contacts.abort
    else if n = 9 then some s.bank.contacts.key
    else if n = 10 then s.atm.effective.map (fun x => decide (x ≤ s.cfg.o2Good))
    else if n = 11 then s.atm.effective.map (fun x => decide (s.cfg.o2Watch < x))
    else if n = 12 then s.atm.effective.map (fun x => decide (s.cfg.o2Trip < x))
    else if n = 13 then o2Disagree s
    else if n = 14 then some s.bank.contacts.supplyP
    else if n = 15 then some s.bank.contacts.supplyR
    else some (divertTruth s)
  else none

/-! ## Inputs and filters -/

/-- The unforced input: the source's truth, inverted where configured; false without a source (R47). -/
def unforcedInput (invert : Bool) (source : Option Bool) : Bool :=
  match source with
  | none => false
  | some b => b != invert

/-- The filter state after an evaluation (R48 to R50). -/
def nextPhase (c : ChannelSettings) (input : Bool) (p : FilterPhase) : FilterPhase :=
  if c.enabled then
    match p with
    | .clear => if input then (if c.countA ≤ 1 then .set else .asserting 1) else .clear
    | .asserting k => if input then (if c.countA ≤ k + 1 then .set else .asserting (k + 1)) else .clear
    | .set => if input then .set else if c.countB ≤ 1 then .clear else .clearing 1
    | .clearing k => if input then .set else if c.countB ≤ k + 1 then .clear else .clearing (k + 1)
  else if input then .set else .clear

/-- The TEST mark after an evaluation that took the output from `before` to `after` (R53). -/
def nextMark (c : Channel) (unforced before after : Bool) : Bool :=
  if after then
    if before then c.mark && !unforced else c.force && !unforced
  else false

/-- Whether an evaluation sets the change flag: the output turned, or the TEST mark ended while it stayed SET (R54). -/
def flagged (c : Channel) (unforced before after : Bool) : Bool :=
  (before != after) || (before && after && c.mark && unforced)

/-- A channel after an evaluation (R47 to R50, R53, R54). -/
def evaluate (cfg : ChannelSettings) (source : Option Bool) (c : Channel) : Channel :=
  let unforced := unforcedInput cfg.invert source
  let input := c.force || unforced
  let next : Channel := { c with phase := nextPhase cfg input c.phase, unforced := unforced, input := input }
  { next with
    mark := nextMark c unforced c.output next.output
    force := c.force && !(next.output && !c.output)
    flag := c.flag || flagged c unforced c.output next.output }

/-- The settings of a channel. -/
def channelSettings (s : State) (n : Nat) : ChannelSettings := at1 {} s.cfg.channels n

/-- A channel of the bank. -/
def channelAt (s : State) (n : Nat) : Channel := at1 {} s.bank.channels n

/-- Whether the evaluation of a channel in a state sets its change flag. -/
def channelFlagged (s : State) (n : Nat) : Bool :=
  let c := channelAt s n
  let next := evaluate (channelSettings s n) (channelSource s n) c
  flagged c next.unforced c.output next.output

/-- Whether a pending READ EVENTS reply returned a channel's flag as set (R192). -/
def returnedFlag (p : Port) (n : Nat) : Bool :=
  match p.pendingReply with
  | some r => (r.returned.map (fun x => at1 false x.flags n)).getD false
  | none => false

/-- The notice of a change flag set: the re-change marker where a pending READ EVENTS reply returned the flag, and
FILTER CHANGE where the channel mask is clear (R54, R192). -/
def noticeFlag (n : Nat) (s : State) : State :=
  let s1 := if returnedFlag s.port n then s.withPort { s.port with reChange := set1 s.port.reChange n true } else s
  if at1 false s.port.channelMasks n then s1 else raise .filterChange s1

/-- All 16 channels are evaluated from the same inputs; change flags, the detectors' faults and the healthy detector
count follow (R44, R51, R54). -/
def evaluateAll (s : State) : State :=
  let s1 := s.withBank { s.bank with
    channels := Vector.ofFn (fun k : Fin 16 =>
      evaluate (channelSettings s (k.val + 1)) (channelSource s (k.val + 1)) (channelAt s (k.val + 1)))
    detectorFault := Vector.ofFn (fun k : Fin 4 => detectorFaulted s (k.val + 1))
    healthy := [1, 2, 3, 4].countP (detectorHealthy s) }
  (sixteenNumbers.filter (channelFlagged s)).foldl (fun s n => noticeFlag n s) s1

/-! ## TEST CHANNEL (R52) -/

/-- The force request of a channel is set. -/
def setForce (n : Nat) (s : State) : State :=
  s.withBank { s.bank with channels := set1 s.bank.channels n { channelAt s n with force := true } }

/-- Whether a channel is one of those refused as NOT TESTABLE. -/
def notTestable (n : Nat) : Bool := decide (n = 7 ∨ n = 8 ∨ n = 9 ∨ n = 10)

/-- A proof test of a channel from 1 to 16: the cases of R52 in order. FAULT is a status of detectors: the force of a
measured channel is set whether or not its quantity reads as faulted (DEDUCED, log entry 46). -/
def testChannelOf (tag : Byte) (n : Nat) (s : State) : State :=
  if channelOut s 9 = false then replyRefused tag .key s
  else if notTestable n then replyRefused tag .notTestable s
  else if channelUsed s.cfg.role n = false then replyRefused tag .role s
  else if n ≤ 4 ∧ (detectorKind s n = .absent ∨ at1 false s.bank.detectorFault n = true) then
    replyRefused tag .fault s
  else if (channelAt s n).force then replyDone tag [] s
  else if channelOut s n then replyRefused tag .active s
  else replyDone tag [] (setForce n s)

end Sys2Proof.Machine
end

