-- ==== Sys2Proof/Machine/TickOps.lean ====
section
/-! DEFINITION. What the Discharge Engine does at a sample timer expiry itself (R94, steps 1 to 3, and the entry into
RUN): timers and counts, the filter change (R93, R108), the sample (R97, R99 to R101), settling (R95, R96), the zero run
and the rest current run (R103, R104); and the order of the blocks at an expiry. -/

namespace Sys2Proof.Machine

open Sys2Proof

/-- The states in which the engine moves the present step (R94). -/
def stepping (x : EngineState) : Bool := decide (x = .ramp ∨ x = .run ∨ x = .unload)

/-- The states in which the engine settles (R95). -/
def settling (x : EngineState) : Bool := decide (x = .ramp ∨ x = .run)

/-- One expiry passes on the engine's timers, the ramp count and the unload count. A timer started and a state entered
later in the same expiry then take no count of it (R94). -/
def Engine.tick (e : Engine) : Engine :=
  { e with
    settleTimer := e.settleTimer.map (· - 1)
    restTimer := e.restTimer.map (· - 1)
    checkTimer := e.checkTimer.map (· - 1)
    rampCount := if stepping e.state then e.rampCount + 1 else e.rampCount
    unloadCount := if e.state = .unload then e.unloadCount + 1 else e.unloadCount }

/-- HOT joins the bound record's marks, and the Zone Unit is told (R108, R150). -/
def markHot (s : State) : State :=
  zoneTakesStore (updateBound (fun p => { p with marks := { p.marks with hot := true } }) s)

/-- PACK STOP has turned SET (R108). -/
def takePackStop (s : State) : State :=
  match s.engine.state with
  | .connect => markHot (orderUnload (.handBack .hot) s)
  | .ramp => markHot (orderUnload (.handBack .hot) s)
  | .run => markHot (orderUnload (.handBack .hot) s)
  | .rest => markHot (orderUnload (.handBack .hot) s)
  | .unload => markHot (orderUnload (.handBack .hot) s)
  | .fault => markHot s
  | .isolate => markHot s
  | .idle => s
  | .done => s

/-- The engine takes the filter change: PACK HOT before and now, PACK STOP before and now (R93, R108). Where both turn at one
expiry, the target is recomputed before the unload of PACK STOP begins (DESIGN CHOICE, log entry 58). -/
def engineTakesFilter (hot stop : Bool) (s : State) : State :=
  let s1 := if hot ≠ channelOut s 5 then recomputeUnderLoad s else s
  if !stop && channelOut s 6 then takePackStop s1 else s1

/-- The fresh reading of an expiry: a new set in which V, I and T all carry values (R97). -/
def freshReading (new : Bool) (s : State) : Option Reading :=
  if new then
    match measured s (fun x => x.v), measured s (fun x => x.i), measured s (fun x => x.t) with
    | some v, some i, some t => some { v := v, i := i, t := t }
    | _, _, _ => none
  else none

/-- The engine with an expiry's sample judged; a status that becomes LOST leaves R98 due (R97, R98). -/
def Engine.judge (fresh : Option Reading) (e : Engine) : Engine :=
  match fresh with
  | some r => { e with status := .valid, gap := 0, lastValid := some r }
  | none =>
    let gap := satSucc 255 e.gap
    if gap ≤ 3 ∧ e.status ≠ .lost then { e with status := .held, gap := gap }
    else { e with status := .lost, gap := gap, lossDue := e.lossDue || decide (e.status ≠ .lost) }

/-- The energy of a fresh sample in RAMP, RUN and UNLOAD, or one count of reverse current (R99, R124). -/
def integrateSample (m : Reading) (s : State) : State :=
  if stepping s.engine.state then
    if m.i < 0 then onEngine (fun e => { e with reverse := satSucc 65535 e.reverse }) s
    else if 0 < m.v ∧ 0 < m.i then updateBound (integrate (m.v.toNat * m.i.toNat)) s
    else s
  else s

/-- A fresh sample with V below 0 in RAMP or RUN (R100). -/
def testPolarity (m : Reading) (s : State) : State :=
  if settling s.engine.state = true ∧ m.v < 0 then
    orderUnload (.fault .polarity)
      (updateBound (fun p => { p with marks := { p.marks with polarity := true } }) s)
  else s

/-- Whether a fresh sample ends the round of a record (R101, R117, R120). -/
def roundEnds (m : Reading) (r : PackRecord) (s : State) : Bool :=
  decide (cellVoltage m.v r.data.cells ≤ (curveOf s r.data.chemistry).endVoltage)
    || (countedEstimate r.data).any (fun c => decide (c ≤ s.cfg.releaseLimit))

/-- The end of a round (R101). -/
def testRoundEnd (m : Reading) (s : State) : State :=
  if settling s.engine.state = true ∧ 0 ≤ m.v then
    match boundRecord s with
    | some r => if roundEnds m r s then orderUnload .rest s else s
    | none => s
  else s

/-- What a fresh sample does: integration, R100, R101 (R94, step 2). -/
def takeFresh (fresh : Option Reading) (s : State) : State :=
  match fresh with
  | some m => testRoundEnd m (testPolarity m (integrateSample m s))
  | none => s

/-- Whether a current agrees with the present step (R95). -/
def agrees (current : Int) (present stepCurrent : Nat) : Bool :=
  decide ((current - (present * stepCurrent : Nat)).natAbs ≤ stepCurrent)

/-- The settle run and the settle timer at a fresh sample in RAMP and RUN: the timer stops as the current becomes settled,
and in RUN it starts at a sample that disagrees while it is stopped (R95, R96). -/
def Engine.settle (settleCount settleTimeout stepCurrent : Nat) (m : Reading) (e : Engine) : Engine :=
  if agrees m.i e.present stepCurrent then
    let run := satSucc 255 e.settleRun
    { e with
      settleRun := run
      settleTimer := if e.settleRun < settleCount ∧ settleCount ≤ run then none else e.settleTimer }
  else
    { e with
      settleRun := 0
      settleTimer := if e.state = .run ∧ e.settleTimer = none then some settleTimeout else e.settleTimer }

/-- The zero run at an expiry in UNLOAD (R103). -/
def Engine.countZero (threshold : Nat) (e : Engine) : Engine :=
  if 0 < e.present then { e with zeroRun := 0 }
  else match e.status with
    | .valid =>
      if (e.lastValid.map (fun m => m.i.natAbs)).all (fun i => decide (i < threshold)) then
        { e with zeroRun := e.zeroRun + 1 }
      else { e with zeroRun := 0 }
    | .held => e
    | .lost => { e with zeroRun := e.zeroRun + 1 }

/-- The rest current run at a fresh sample in REST (R104). -/
def Engine.countRest (threshold : Nat) (m : Reading) (e : Engine) : Engine :=
  if threshold ≤ m.i.natAbs then { e with restRun := e.restRun + 1 } else { e with restRun := 0 }

/-- The runs of an expiry, for an engine that was in state `was` as the expiry began (R94, step 3). -/
def updateRuns (was : EngineState) (fresh : Option Reading) (s : State) : State :=
  let x := s.engine.state
  if settling x then
    match fresh with
    | some m => onEngine (Engine.settle s.cfg.settleCount s.cfg.settleTimeout s.cfg.stepCurrent m) s
    | none => s
  else if was = .unload ∧ x = .unload then onEngine (Engine.countZero s.cfg.zeroThreshold) s
  else if was = .rest ∧ x = .rest then
    match fresh with
    | some m => onEngine (Engine.countRest s.cfg.zeroThreshold m) s
    | none => s
  else s

/-- Entry into RUN (R96). -/
def enterRun (s : State) : State :=
  if s.engine.state = .ramp ∧ s.engine.present = s.engine.target ∧ s.cfg.settleCount ≤ s.engine.settleRun then
    onEngine (fun e => { e.enter .run with settleTimer := none }) s
  else s

/-- The engine at a sample timer expiry of a BAY, after the filter handover: the outputs of PACK HOT and PACK STOP and
whether a new set was taken stand as arguments (R94). At other roles the engine keeps its start values (R87). -/
def engineExpiry (was : EngineState) (hot stop new : Bool) (s : State) : State :=
  if s.cfg.role = .bay then
    let s1 := engineTakesFilter hot stop s
    let fresh := freshReading new s1
    enterRun (updateRuns was fresh (takeFresh fresh (onEngine (Engine.judge fresh) s1)))
  else s

/-- A sample timer expiry: the timers, the sample set and the contacts, the sensors, the 16 channels, and then the Zone
Unit, the Atmosphere Unit and the Discharge Engine (R42, R43, R51, R94, R129, R138, R153). -/
def sampleExpiry (contacts : Contacts) (s : State) : State :=
  let s1 := (onEngine Engine.tick s).withBank { takeSampleSet s.bank with contacts := contacts }
  let s2 := evaluateAll (judgeSensors s1)
  let s3 := atmosphereHandover (zoneHandover s2)
  engineExpiry s.engine.state (channelOut s 5) (channelOut s 6) s.bank.arrived.isSome s3

end Sys2Proof.Machine
end

