-- ==== Sys2Proof/Machine/Due.lean ====
section
/-! DEFINITION. The steps that an expiry leaves due. A sample timer expiry and a period timer expiry make separately
tabled steps due; each such step is a command of its own, and every other command first takes what is due, in the order
of R94 (log entry 1). -/

namespace Sys2Proof.Machine

open Sys2Proof

/-- ENTER RUNNING: the third period timer expiry of LISTENING, which is the first taken in RUNNING (R200). -/
def takeEnterRunning (s : State) : State :=
  if s.start.phase = .listening ∧ 3 ≤ s.peers.periodCount then
    runningPeriod (s.withStart { s.start with phase := .running })
  else s

/-- START WINDOW CLOSE: the twentieth period timer expiry (R21). -/
def takeStartWindowClose (s : State) : State :=
  if s.peers.windowOpen = true ∧ 20 ≤ s.peers.periodCount then s.withPeers { s.peers with windowOpen := false } else s

/-- REFUSAL STREAK QUIET: a quiet count of 20 returns a streak to 0 (R67). -/
def takeStreakQuiet (n : Nat) (s : State) : State :=
  if 0 < (s.peer n).streak ∧ 20 ≤ at1 0 s.store.quiet n then clearStreak n s else s

/-- The due steps up to each one, in order. -/
def dueLoss (s : State) : State := takeMeasurementLoss s
def dueRamp (s : State) : State := takeRampStep (dueLoss s)
def dueUnload (s : State) : State := takeUnloadComplete (dueRamp s)
def dueRestCurrent (s : State) : State := takeRestCurrentFault (dueUnload s)
def dueLoadStuck (s : State) : State := takeLoadStuck (dueRestCurrent s)
def dueSettle (s : State) : State := takeSettleTimeout (dueLoadStuck s)
def dueRest (s : State) : State := takeRestTimerExpiry (dueSettle s)
def dueCheck (s : State) : State := takeContactorCheck (dueRest s)
def dueCountdown (s : State) : State := takeCountdownEnd (dueCheck s)
def dueRunning (s : State) : State := takeEnterRunning (dueCountdown s)
def dueWindow (s : State) : State := takeStartWindowClose (dueRunning s)
def dueStreaks (s : State) : State := stationNumbers.foldl (fun s n => takeStreakQuiet n s) (dueWindow s)

/-- Everything due is taken. -/
def takeDue (s : State) : State := dueStreaks s

/-- Nothing of the engine's is due. -/
def engineQuiet (s : State) : Bool :=
  let e := s.engine
  !e.lossDue
    && !(stepping e.state && decide (s.cfg.rampInterval ≤ e.rampCount))
    && !decide (e.state = .unload ∧ (s.cfg.settleCount ≤ e.zeroRun ∨ unloadBound s < e.unloadCount))
    && !decide (e.state = .rest ∧ (s.cfg.settleCount ≤ e.restRun ∨ e.restTimer = some 0))
    && !(settling e.state && decide (e.settleTimer = some 0))
    && !decide (e.checkTimer = some 0)

/-- Nothing is due: every due step's condition fails. -/
def noneDue (s : State) : Bool :=
  engineQuiet s
    && !decide (s.zone.level = .countdown ∧ s.zone.endDue = true)
    && !decide (s.start.phase = .listening ∧ 3 ≤ s.peers.periodCount)
    && !decide (s.peers.windowOpen = true ∧ 20 ≤ s.peers.periodCount)
    && stationNumbers.all (fun n => !decide (0 < (s.peer n).streak ∧ 20 ≤ at1 0 s.store.quiet n))

/-- A command that acts while the blocks are active, after what is due. -/
def whenActive (act : State → State) (s : State) : State :=
  let s1 := takeDue s
  if active s1 then act s1 else s1

end Sys2Proof.Machine
end

