-- ==== Sys2Proof/Machine/ReplyData.lean ====
section
/-! DEFINITION. The replies of the station port: the values of every read request in the order its owning rule lists them
(R185 and the rules named below), the bytes of a reply (R185, R187), and the reading of a reply (R187, R192). -/

namespace Sys2Proof.Machine

open Sys2Proof

/-! ## Values (R185; what R185 leaves open is log entry 9) -/

def b1 (v : Nat) : Item := .nat 1 v
def b2 (v : Nat) : Item := .nat 2 v
def b4 (v : Nat) : Item := .nat 4 v
def b8 (v : Nat) : Item := .nat 8 v

/-- A pack ID. -/
def packItem (p : PackId) : Item := .nat 6 p.toNat

/-- A yes-or-no or set-or-clear value. -/
def yes (b : Bool) : Item := b1 (bitNat b)

/-- An absent field is still sent, as zeros. -/
def Item.zero : Item → Item
  | .nat k _ => .nat k 0
  | .int k _ => .int k 0

/-- An optional field: a presence byte and the field, or zeros in the field's shape. -/
def optional {α : Type} (shape : List Item) (f : α → List Item) : Option α → List Item
  | some x => b1 1 :: f x
  | none => b1 0 :: shape.map Item.zero

/-- An optional quantity of `k` bytes. -/
def optNat (k : Nat) (v : Option Nat) : List Item := optional [.nat k 0] (fun x => [.nat k x]) v

/-- A list whose number of entries its rule does not fix. -/
def counted {α : Type} (f : α → List Item) (xs : List α) : List Item := b1 xs.length :: xs.flatMap f

/-- Sixteen set or clear values as two bytes, the first in the most significant bit. -/
def sixteenBits (f : Nat → Bool) : Item := b2 (sixteenNumbers.foldl (fun a n => 2 * a + bitNat (f n)) 0)

def linkStateCode : LinkState → Nat
  | .active => 0 | .clashed => 1
def clashCauseCode : ClashCause → Nat
  | .none => 0 | .aborts => 1 | .selfHeard => 2
def admissionCode : Admission → Nat
  | .unknown => 0 | .admitted => 1 | .refused _ => 2
def admissionRefusalCode : AdmissionRefusal → Nat
  | .notListed => 0 | .periodMismatch => 1 | .clash => 2 | .closed => 3
def modeCode : AdmissionMode → Nat
  | .opened => 0 | .listed => 1 | .closed => 2
def stepStateCode : StepState → Nat
  | .seeking => 0 | .inStep => 1 | .outOfStep => 2
def arrivalCode : Arrival → Nat
  | .hit => 0 | .miss => 1
def arrivalCauseCode : ArrivalCause → Nat
  | .sequence => 0 | .silence => 1
/-- The reasons of the peer change note in the order of the table of R39, the refusal reason as its four values in the order
of 3.1 and no row twice (DESIGN CHOICE, log entry 9). -/
def peerNoteCode : PeerNoteReason → Nat
  | .admitted => 0 | .refused .notListed => 1 | .refused .periodMismatch => 2 | .refused .clash => 3
  | .refused .closed => 4 | .restart => 5 | .clashListed => 6 | .linkClashed => 7 | .epochWrite => 8
def filterPhaseCode : FilterPhase → Nat
  | .clear => 0 | .asserting _ => 1 | .set => 2 | .clearing _ => 3
def filterCount : FilterPhase → Nat
  | .clear => 0 | .asserting k => k | .set => 0 | .clearing k => k
/-- The kind of a detector by its position in the list of R44, and not by the code that Frame Layouts give an ALARM cause of
that name (DESIGN CHOICE, log entry 9). -/
def detectorKindCode : DetectorKind → Nat
  | .heat => 0 | .gas => 1 | .spark => 2 | .flame => 3 | .absent => 4
def recordStateCode : RecordState → Nat
  | .held => 0 | .discharging => 1 | .ready => 2 | .offered => 3 | .inTransit => 4 | .halted => 5 | .adrift => 6
  | .feeding => 7
def engineStateCode : EngineState → Nat
  | .idle => 0 | .connect => 1 | .ramp => 2 | .run => 3 | .unload => 4 | .rest => 5 | .done => 6 | .fault => 7
  | .isolate => 8
def handBackCode : HandBackReason → Nat
  | .stopped => 0 | .alarm => 1 | .hot => 2 | .clashed => 3
/-- The place of a fault cause in the list of R111; the purpose of an unload uses it too, although R102 lists three of the
causes in another order (DESIGN CHOICE, log entry 9). -/
def faultCauseCode : FaultCause → Nat
  | .polarity => 0 | .voltage => 1 | .loadDeviation => 2 | .measurementLost => 3 | .stubborn => 4 | .loadStuck => 5
/-- The outcome of the end note in one byte: 0 DONE, 1 to 4 the hand-back reasons, 5 to 10 the fault causes, 11 ISOLATION
FAILED (R112; DESIGN CHOICE, log entry 9). -/
def endOutcomeCode : EndOutcome → Nat
  | .done => 0 | .handedBack r => 1 + handBackCode r | .faulted c => 5 + faultCauseCode c | .isolationFailed => 11
def statusCode : MeasureStatus → Nat
  | .valid => 0 | .held => 1 | .lost => 2
/-- The segment in one byte: its index 0 to 7, or 8 AT OR BELOW FIRST KNOT and 9 AT OR ABOVE LAST KNOT (R127; DESIGN CHOICE,
log entry 9). -/
def segmentCode : Segment → Nat
  | .index k => k | .belowFirst => 8 | .aboveLast => 9
/-- The outcome of a computation and its failed parts in one byte: 0 PASS, 1 ENERGY, 2 VOLTAGE, 3 both, and 4 for NEGATIVE
VOLTAGE (DESIGN CHOICE, log entry 9). -/
def releaseCode : ReleaseOutcome → Nat
  | .pass => 0 | .fail true false => 1 | .fail false true => 2 | .fail _ _ => 3
def tripCauseCode : TripCause → Nat
  | .none => 0 | .o2High => 1 | .sensorLoss => 2 | .supplyLost => 3 | .purgeFailed => 4
/-- The causes of the atmosphere note in the order of R142, a trip cause as one of its four values in their order (DESIGN
CHOICE, log entry 9). -/
def atmNoteCode : AtmNoteCause → Nat
  | .purgeRequested => 0 | .purgeSlow => 1 | .purgeDone => 2 | .o2Watch => 3 | .sensor => 4 | .disagree => 5
  | .cleared => 6 | .trip c => 6 + tripCauseCode c | .doorBreach => 11 | .doorOpened => 12
def supplyNoteCode : SupplyNote → Nat
  | .toReserve => 0 | .toPrimary => 1 | .bothLow => 2
def permitLossCode : PermitLoss → Nat
  | .atmosphere => 0 | .zone => 1 | .mark => 2 | .clashed => 3
def closeReasonCode : CloseReason → Nat
  | .command => 0 | .full => 1 | .alarm => 2 | .atmosphere => 3
def phaseCode : Phase → Nat
  | .loading => 0 | .listening => 1 | .running => 2 | .safeHalt => 3
def epochOutcomeCode : EpochOutcome → Nat
  | .written => 0 | .failed => 1
def reasonCode : Reason → Nat
  | .length => 1 | .sum => 2 | .code => 3 | .parameter => 4 | .starting => 5 | .halted => 6 | .role => 7 | .key => 8
  | .clashed => 9 | .own => 10 | .notTestable => 11 | .fault => 12 | .active => 13 | .duplicate => 14 | .full => 15
  | .unknown => 16 | .alarm => 17 | .measurement => 18 | .hot => 19 | .empty => 20 | .idle => 21 | .isolated => 22
  | .door => 23 | .supply => 24 | .notPermitted => 25 | .quarantine => 26 | .notFeeding => 27 | .notInAlarm => 28
  | .released => 29 | .electrical => 30 | .peer => 31 | .notReleased => 32 | .none => 33
def replyCodeOf : ReplyCode → Nat
  | .none => 0 | .done => 1 | .refused => 2 | .busy => 3 | .bad => 4

/-- A zone cause takes the code of an ALARM cause in Frame Layouts. -/
def zoneCauseItem (c : Option ZoneCause) : List Item := optNat 1 (c.map causeCode)

/-! ## Line Link and peers -/

/-- The values of READ LINK (R17). The three slots stand in the order ALARM, STATE, JOIN (DESIGN CHOICE, log entry 9). -/
def linkItems (s : State) : List Item :=
  let l := s.link
  [ b1 (linkStateCode l.state), b1 (clashCauseCode l.clashCause), b1 l.suspicion, b1 l.receiveErrors,
    b4 l.receiveTotal, b2 l.stateOverruns, b2 l.handoffOverruns, b1 l.queue.length, yes l.alarmSlot.isSome,
    yes l.stateSlot.isSome, yes l.joinSlot.isSome, b1 l.nextSequence, b1 l.ahead, yes l.testRequest ]

/-- An admission with its reason. -/
def admissionItems (a : Admission) : List Item :=
  b1 (admissionCode a) ::
    optNat 1 (match a with
      | .refused r => some (admissionRefusalCode r)
      | .unknown => none
      | .admitted => none)

/-- Published values (3.1). An entry of the unheard list is two bytes, its reason and then its station (DESIGN CHOICE, log
entry 9). -/
def publishedItems (p : Published) : List Item :=
  [ b1 (levelCode p.level), yes p.testFlag, yes p.strict, b1 p.healthy, b1 (atmCode p.atmosphere),
    b1 (supplyCode p.supply), b4 p.allowance, b1 p.freePlaces, b1 p.heldCount, b2 p.consumedCount, b2 p.openLot,
    b1 p.echo ]
  ++ counted (fun e => [b1 (unheardCode e.reason), b1 e.station]) p.unheard ++ [yes p.overflow]

/-- The values of READ PEER (R40). The recorded zone is sent as its number 1 to 8 (DEDUCED, log entry 22). -/
def peerItems (n : Nat) (s : State) : List Item :=
  let e := s.peer n
  admissionItems e.admission
  ++ optional [b8 0] (fun id => [b8 id.toNat]) e.recordedId
  ++ optNat 1 (e.recordedRole.map roleCode) ++ optNat 1 e.recordedZone ++ optNat 1 e.recordedPeriod
  ++ optNat 1 e.recordedEpoch
  ++ [yes e.clashFlag, b1 (stepStateCode e.step)]
  ++ counted (fun o => [b1 (arrivalCode o)]) e.window
  ++ optNat 1 (e.newestCause.map arrivalCauseCode) ++ optNat 1 e.lastSequence
  ++ optional (publishedItems {}) publishedItems e.published
  ++ [ yes e.silenceTimer.isSome, yes e.heard, b2 e.discards, b1 e.streak, yes (isMember s n) ]

/-- The values of READ LINE VIEW (R40). The echo sum takes four bytes (DESIGN CHOICE, log entry 9). -/
def lineViewItems (s : State) : List Item :=
  [ b1 (modeCode s.peers.mode), yes s.peers.windowOpen, b1 s.peers.periodCount, b4 (echoSum s.peers),
    b1 s.peers.holdOff ]
  ++ optional [b1 0, b1 0] (fun x => [b1 (peerNoteCode x.reason), b1 x.station]) s.peers.note
  ++ (stationNumbers.filter (fun n => decide (n ≠ s.cfg.station))).flatMap (fun n =>
      admissionItems (s.peer n).admission ++ [b1 (stepStateCode (s.peer n).step), yes (isMember s n)])

/-! ## Filters -/

/-- The values of READ FILTERS (R55): the filter state and the count channel by channel, then six words of sixteen bits,
then kind and FAULT detector by detector (DESIGN CHOICE, log entry 9). -/
def filterItems (s : State) : List Item :=
  sixteenNumbers.flatMap (fun n =>
    [b1 (filterPhaseCode (channelAt s n).phase), b2 (filterCount (channelAt s n).phase)])
  ++ [ sixteenBits (channelOut s), sixteenBits (fun n => (channelAt s n).mark),
    sixteenBits (channelUsed s.cfg.role), sixteenBits (fun n => (channelAt s n).force),
    sixteenBits (fun n => (channelAt s n).flag), sixteenBits (at1 false s.port.channelMasks) ]
  ++ [1, 2, 3, 4].flatMap (fun n => [b1 (detectorKindCode (detectorKind s n)), yes (at1 false s.bank.detectorFault n)])
  ++ [b1 s.bank.missing, b1 s.bank.healthy]

/-! ## Pack Store -/

/-- The fields of a record that an OFFER carries. -/
def packDataItems (p : PackData) : List Item :=
  [b1 p.chemistry, b1 p.cells, b4 p.eNom] ++ optNat 4 p.eDecl
  ++ [b2 p.iPack, b1 p.grade, b4 p.eDis, .nat 3 p.eDisRem] ++ optNat 4 p.residual
  ++ [b1 (basisCode p.basis), b1 p.rounds, b1 (marksCode p.marks)]
  ++ counted (fun e => [b1 e.station, b1 (outcomeCode e.outcome)]) p.history

/-- The values of READ RECORD for a record (R57, R84). -/
def recordItems (r : PackRecord) : List Item :=
  packItem r.id :: packDataItems r.data
  ++ [b1 (recordStateCode r.state)] ++ optNat 1 r.offerNumber ++ optNat 1 r.destination
  ++ [yes r.offerTimer.isSome, yes r.backOff.isSome, yes r.transitTimer.isSome, b1 r.sendCount]

/-- The values of READ RECORD for a reservation (R59, R84). -/
def reservationItems (v : Reservation) : List Item :=
  [b1 v.station, packItem v.packId, b1 v.offerNumber, b1 v.number] ++ packDataItems v.pack
  ++ [b4 v.energy, yes v.holdTimer.isSome]

/-- The outcome of the handoff note in the order of R85, with a reason byte (DESIGN CHOICE, log entry 9). -/
def handoffOutcomeItems : HandoffOutcome → List Item
  | .granted => [b1 0, b1 0]
  | .refused r => [b1 1, b1 (refusalCode r)]
  | .noReply => [b1 2, b1 0]
  | .taken => [b1 3, b1 0]
  | .takenLate => [b1 4, b1 0]
  | .lapsed => [b1 5, b1 0]
  | .cancelled r => [b1 6, b1 (cancelCode r)]
  | .dispute => [b1 7, b1 0]
  | .unexpectedArrival => [b1 8, b1 0]

/-- The values of READ STORE (R84): behind one count byte the records one by one, each as its pack ID and its state, then behind
another the reservations one by one, each as its four values (DESIGN CHOICE, log entry 9). -/
def storeItems (s : State) : List Item :=
  counted (fun r => [packItem r.id, b1 (recordStateCode r.state)]) s.store.records
  ++ counted (fun v => [packItem v.packId, b1 v.station, b1 v.offerNumber, b1 v.number]) s.store.reservations
  ++ [ b1 (freePlaces s), .nat 5 s.store.heldEnergy, .nat 5 s.store.reservedEnergy,
    b4 (if s.cfg.role = .chamber then effectiveLimit s else 0), b4 s.store.allowance, b1 s.store.nextOffer,
    b1 s.store.nextReservation, yes s.store.permit, b2 s.store.unmatched ]
  ++ optional [.nat 6 0, b1 0, b1 0, b1 0]
      (fun x => [packItem x.packId, b1 x.station] ++ handoffOutcomeItems x.outcome) s.store.note

/-! ## Engine and Residual Unit -/

/-- An unload purpose with its reason or cause (R102). -/
def purposeItems : UnloadPurpose → List Item
  | .rest => [b1 0, b1 0]
  | .handBack r => [b1 1, b1 (handBackCode r)]
  | .fault c => [b1 2, b1 (faultCauseCode c)]

/-- The values of READ ENGINE (R113). Rounds, E_dis and remainder stand behind one presence byte, absent with no bound record,
and so do the last valid V, I and T; the contactor is 1 closed and 0 open (DESIGN CHOICE, log entry 9). -/
def engineItems (s : State) : List Item :=
  let e := s.engine
  b1 (engineStateCode e.state) :: optional [.nat 6 0] (fun p => [packItem p]) e.bound
  ++ [b1 e.present, b1 e.target, b2 e.iCmd]
  ++ optional [b1 0, b4 0, .nat 3 0] (fun r => [b1 r.data.rounds, b4 r.data.eDis, .nat 3 r.data.eDisRem])
      (boundRecord s)
  ++ optional [b1 0, b1 0] purposeItems e.purpose ++ optNat 1 (e.faultCause.map faultCauseCode)
  ++ [b1 e.rampCount, b1 e.settleRun, b1 e.zeroRun, b1 e.restRun, b2 e.unloadCount]
  ++ optNat 2 e.settleTimer ++ optNat 2 e.restTimer ++ optNat 1 e.checkTimer
  ++ [b1 (statusCode e.status), b1 e.gap]
  ++ optional [.int 3 0, .int 3 0, .int 2 0] (fun m => [.int 3 m.v, .int 3 m.i, .int 2 m.t]) e.lastValid
  ++ [b2 e.reverse, yes e.contactor, b1 e.loadStep]
  ++ optional [.nat 6 0, b1 0] (fun x => [packItem x.packId, b1 (endOutcomeCode x.outcome)]) e.endNote

/-- The figures of a computation note that a NEGATIVE VOLTAGE outcome leaves absent (R127). -/
def figureItems (c : Option Computation) : List Item :=
  optNat 2 (c.map (fun x => x.cellVoltage)) ++ optNat 1 (c.map (fun x => segmentCode x.segment))
  ++ optNat 2 (c.map (fun x => x.fraction)) ++ optNat 4 (c.map (fun x => x.eV)) ++ optNat 4 (c.bind (fun x => x.eC))
  ++ optNat 4 (c.map (fun x => x.residual)) ++ optNat 1 (c.map (fun x => basisCode x.basis))
  ++ [b1 ((c.map (fun x => releaseCode x.outcome)).getD 4)]

/-- A curve as READ RESIDUAL gives it (R127). -/
def curveItems (c : Curve) : List Item :=
  yes c.inUse :: (List.range 9).flatMap (fun j => [b2 (c.knots.getD j (0, 0)).1, b2 (c.knots.getD j (0, 0)).2])
  ++ [b2 c.cellMin, b2 c.cellMax, b2 c.endVoltage]

/-- The values of READ RESIDUAL (R127). -/
def residualItems (s : State) : List Item :=
  optional ([.nat 6 0, .int 3 0] ++ figureItems none)
    (fun x => [packItem x.packId, .int 3 x.v] ++ figureItems x.figures) s.residual
  ++ [1, 2, 3, 4].flatMap (fun k => curveItems (at1 {} s.cfg.curves k))
  ++ [b4 s.cfg.releaseLimit, b2 s.cfg.releaseCellVoltage]

/-! ## Atmosphere and zone -/

/-- The outcome of the feed note, its codes in the order of R144 to R147, with a byte for the condition lost (DESIGN CHOICE,
log entry 9). -/
def feedOutcomeItems : FeedOutcome → List Item
  | .feeding => [b1 0, b1 0]
  | .permitLost c => [b1 1, b1 (permitLossCode c)]
  | .consumed => [b1 2, b1 0]
  | .withdrawn => [b1 3, b1 0]

/-- The values of READ ATMOSPHERE, with the seconds left on a running purge timer (R148). A valve is 1 open and 0 closed, an
asserted output 1 (DESIGN CHOICE, log entry 9); the supply note is its cause alone (log entry 57). -/
def atmosphereItems (secondsLeft : Option Nat) (s : State) : List Item :=
  let a := s.atm
  [b1 (atmCode a.state), b1 (tripCauseCode a.tripCause), b1 a.attempts] ++ optNat 2 secondsLeft
  ++ optNat 2 a.readingA ++ [yes a.healthyA] ++ optNat 2 a.readingB ++ [yes a.healthyB] ++ optNat 2 a.effective
  ++ [7, 10, 11, 12, 13, 14, 15].map (fun n => yes (channelOut s n))
  ++ [ b1 (supplyCode a.supply), yes a.purgeValve, yes a.makeUpValve, yes a.boost, b1 (supplyCode a.supplySelect),
    yes a.feedPermit ]
  ++ optional [.nat 6 0] (fun r => [packItem r.id]) (feedingRecord s)
  ++ optional [b1 0, b1 0] (fun x => [b1 (atmCode x.state), b1 (atmNoteCode x.cause)]) a.note
  ++ optNat 1 (a.supplyNote.map supplyNoteCode)
  ++ optional [.nat 6 0, b1 0, b1 0] (fun x => packItem x.packId :: feedOutcomeItems x.outcome) a.feedNote

/-- The origin of a zone note: OWN as 0, or a station number, with the cause its ALARM frame carried as an optional field
(R166; DESIGN CHOICE, log entry 9). -/
def originItems : Origin → List Item
  | .own => [b1 0] ++ zoneCauseItem none
  | .peer n c => [b1 n] ++ zoneCauseItem c

/-- A zone note (R166). -/
def zoneNoteItems (x : ZoneNote) : List Item :=
  [b1 (levelCode x.level), yes x.testFlag] ++ zoneCauseItem x.cause ++ originItems x.origin

/-- The values of READ ZONE (R169). The kind of a detector is its configured kind, SET or not (DESIGN CHOICE, log entry 54), the
countdown runs while ABORT pauses it (DESIGN CHOICE, log entry 59), and the members stand in rising station order (DESIGN
CHOICE, log entry 9). -/
def zoneItems (s : State) : List Item :=
  let z := s.zone
  b1 (levelCode z.level) :: zoneCauseItem z.cause
  ++ [ yes z.testFlag, yes z.ownStrict, yes z.strictCommand, b1 z.grade2, b1 z.hot, b1 s.bank.healthy,
    yes z.strictInForce, yes (confirming false s) ]
  ++ [1, 2, 3, 4].flatMap (fun n =>
      [yes (channelOut s n), yes (channelAt s n).mark, b1 (detectorKindCode (detectorKind s n))])
  ++ [ yes (channelOut s 8), yes (channelOut s 9), yes z.countdown, b2 z.releaseCount, yes z.isolationLatch,
    yes z.suppression ]
  ++ counted (fun n => [b1 n, b1 (levelCode (at1 .normal z.taken n)), yes (s.peer n).effectiveStrict]) (members s)
  ++ optional (zoneNoteItems { level := .normal, testFlag := false, cause := none, origin := .own }) zoneNoteItems
      z.note

/-! ## Tally and lots -/

/-- A counter with its lost-count marker. -/
def counterItems (c : Counter) : List Item := [b4 c.value, yes c.lost]

/-- A lot's state, 0 OPEN and 1 CLOSED, and its close reason. -/
def lotStateItems (l : Lot) : List Item :=
  b1 (bitNat l.closeReason.isSome) :: optNat 1 (l.closeReason.map closeReasonCode)

/-- The values of READ TALLY (R183). -/
def tallyItems (s : State) : List Item :=
  let t := s.tally
  counterItems t.admitted ++ counterItems t.received ++ counterItems t.released ++ counterItems t.consumed
  ++ counterItems t.removed
  ++ [ b1 s.store.records.length, .int 5 t.balance, b8 t.discharged, b8 t.consumedResidual, b2 t.nextLot,
    b2 (openLotNumber s) ]
  ++ counted (fun l => [b2 l.number] ++ lotStateItems l ++ [b1 l.packs.length, b8 l.residualSum])
      (t.openLot.toList ++ t.closedLots)

/-- The values of READ LOT (R175, R184). -/
def lotItems (l : Lot) : List Item :=
  [b2 l.number] ++ lotStateItems l ++ [b1 l.packs.length] ++ counted (fun p => [packItem p]) l.packs
  ++ [b8 l.residualSum] ++ optNat 2 l.peak ++ [b2 l.watchEpisodes, b1 l.epoch]

/-! ## Station Port and Start Unit -/

/-- The change flags of the 16 channels. -/
def changeFlags (s : State) : Sixteen Bool := s.bank.channels.map (fun c => c.flag)

/-- The values of READ EVENTS (R192): the sixteen pending bits, then the sixteen counts (DESIGN CHOICE, log entry 9). -/
def eventItems (overruns : Nat) (s : State) : List Item :=
  let p := s.port
  sixteenBits (fun n => decide (0 < at1 0 p.counts n)) :: p.counts.toList.map b1
  ++ [ sixteenBits (at1 false (changeFlags s)), sixteenBits (at1 false p.kindMasks),
    sixteenBits (at1 false p.channelMasks), b1 overruns, yes p.attention ]

/-- The place of a configuration field in the table of R198, counting from 0. -/
def configFieldCode : ConfigField → Nat
  | .station => 0 | .role => 1 | .zone => 2 | .periodCode => 3 | .admissionMode => 4 | .allowList => 5
  | .defaultDestination => 6 | .alternateDestination => 7 | .quarantineDestination => 8 | .curve => 9 | .iBay => 10
  | .stepCurrent => 11 | .rampInterval => 12 | .settleCount => 13 | .settleTimeout => 14 | .restTime => 15
  | .releaseLimit => 16 | .releaseCellVoltage => 17 | .zeroThreshold => 18 | .maxPackEnergy => 19
  | .energyLimit => 20 | .derateTemp => 21 | .stopTemp => 22 | .o2Good => 23 | .o2Watch => 24 | .o2Trip => 25
  | .disagreeLimit => 26 | .purgeMax => 27 | .grantHold => 28 | .releaseDelay => 29 | .suppressionOwned => 30
  | .revert => 31 | .detectorKind => 32 | .threshold => 33 | .filterSettings => 34 | .divertSource => 35
  | .kindMasks => 36 | .channelMasks => 37

/-- A failing field: the field where the reason names one, its reason, and its index where it has one, in the order R202
lists them (the presence bytes and the field's code are log entry 24). -/
def failingItems : Failing → List Item
  | .memory => optNat 1 none ++ [b1 0] ++ optNat 1 none
  | .check => optNat 1 none ++ [b1 1] ++ optNat 1 none
  | .range f k => optNat 1 (some (configFieldCode f)) ++ [b1 2] ++ optNat 1 k
  | .relation f k => optNat 1 (some (configFieldCode f)) ++ [b1 3] ++ optNat 1 k

/-- The values of READ CONFIG STATUS (R202). -/
def configStatusItems (s : State) : List Item :=
  b1 (phaseCode s.start.phase) :: optional (failingItems .memory) failingItems s.start.failing
  ++ optNat 1 s.start.epoch ++ optNat 1 (s.start.outcome.map epochOutcomeCode) ++ [b8 s.uniqueId.toNat]
  ++ optNat 2 (s.start.storedCheck.map (fun c => c.toNat))

/-! ## The bytes of a reply (R185, R187) -/

/-- The bytes of a value: most significant first, two's complement for a signed one. -/
def Item.bytes : Item → List Byte
  | .nat k v => beBytes k v
  | .int k v => beBytes k (v % (256 ^ k : Nat)).toNat

/-- The reason byte of a reply. -/
def reasonByte : ReplyReason → Nat
  | .none => 0 | .clamped => 1 | .because r => reasonCode r

/-- A reply envelope with its flags filled: length, code, tag, flags, reason, data, sum. -/
def replyBytes (attention : Bool) (r : Reply) : List Byte :=
  let data := r.data.flatMap Item.bytes
  let body := beBytes 2 (data.length + 7)
    ++ [BitVec.ofNat 8 (replyCodeOf r.code), r.tag, BitVec.ofNat 8 (bitNat r.overrun + 2 * bitNat attention),
      BitVec.ofNat 8 (reasonByte r.reason)] ++ data
  body ++ [0 - body.foldl (· + ·) 0]

/-- The NONE envelope. -/
def noneReply : Reply := { code := .none, tag := 0 }

/-- The copy that a transfer clocks out: the pending reply, or the NONE envelope (R187). -/
def replyCopy (p : Port) : List Byte := replyBytes p.attention (p.pendingReply.getD noneReply)

/-- What a transfer of `n` bytes puts on SDO: the copy, and after it bytes of all ones (R187). -/
def clockOut (n : Nat) (copy : List Byte) : List Byte := copy.take n ++ List.replicate (n - copy.length) 0xFF

/-- The clearing that the reading of a READ EVENTS reply makes: exactly what it returned (R192, R194). -/
def clearReturned (x : EventsReturned) (s : State) : State :=
  let s1 := s.withBank { s.bank with channels := Vector.ofFn (fun k : Fin 16 =>
    let c := channelAt s (k.val + 1)
    { c with flag := c.flag && !(at1 false x.flags (k.val + 1) && !at1 false s.port.reChange (k.val + 1)) }) }
  s1.withPort (formAttention { s1.port with
    counts := Vector.zipWith (fun a b => a - b) s1.port.counts x.counts
    overruns := s1.port.overruns - x.overruns
    reChange := Vector.replicate 16 false })

/-- A reply that was read whole leaves the port; a READ EVENTS reply clears what it returned (R187, R192). -/
def leaveReply (r : Reply) (s : State) : State :=
  let s1 := s.withPort { s.port with pendingReply := none }
  match r.returned with
  | some x => clearReturned x s1
  | none => s1

end Sys2Proof.Machine
end

