-- ==== Sys2Proof/Machine/LinkOps.lean ====
section
/-! DEFINITION. The Link Controller: the choice of a frame (R12), attempts and how they end (R4, R5, R10, R11, R13, R16),
entry into CLASHED (R7), and what every frame heard whole goes through first (R6, R9, R10). -/

namespace Sys2Proof.Machine

open Sys2Proof

/-- The frame that the end of a quiet interval chooses (R12). -/
def chooseFrame (l : Link) : Option Frame :=
  match l.alarmSlot, l.stateSlot, l.queue with
  | some f, _, _ => some (.alarm f)
  | none, some f, h :: _ => if l.ahead = 3 then some (.state f) else some (.handoff h)
  | none, some f, [] => some (.state f)
  | none, none, h :: _ => some (.handoff h)
  | none, none, [] => l.joinSlot.map .join

/-- The copy of a chosen frame as it is sent: a STATE takes the receive error count as its echo (R10). -/
def sentCopy (errors : Nat) : Frame → Frame
  | .state f => .state { f with echo := errors }
  | .alarm f => .alarm f
  | .handoff f => .handoff f
  | .join f => .join f

/-- Whether a frame is a STATE. -/
def isState : Frame → Bool
  | .state _ => true
  | .alarm _ => false
  | .handoff _ => false
  | .join _ => false

/-- The attempt on a frame; a STATE attempt made under the test frame request carries the complement of its check
(R8, R16). -/
def attemptOn (l : Link) (f : Frame) : Attempt :=
  { frame := sentCopy l.receiveErrors f
    underTest := isState f && l.testRequest
    wire := frameBytes (sentCopy l.receiveErrors f) (isState f && l.testRequest) }

/-- The level this station drives in a bit time of its attempt, from 0; `true` is recessive. -/
def drives (a : Attempt) (bit : Nat) : Option Bool := (lineBits a.wire)[bit]?

/-- A lost or aborted attempt ends: nothing is removed, and a STATE replaced while it was attempted counts as an overrun
(R4, R5, R11, R13). -/
def endAttempt (a : Attempt) (s : State) : State :=
  let l := { s.link with attempt := none }
  if isState a.frame && a.replaced then s.withLink { l with stateOverruns := satSucc 65535 l.stateOverruns }
  else s.withLink l

/-- A completed attempt removes the frame it sent, if that frame is still there, with what R5, R10, R12, R13 and R16
attach to its completion. -/
def completeAttempt (a : Attempt) (s : State) : State :=
  let l := { s.link with attempt := none, suspicion := 0 }
  match a.frame with
  | .alarm _ => s.withLink { l with alarmSlot := if a.replaced then l.alarmSlot else none }
  | .join _ => s.withLink { l with joinSlot := if a.replaced then l.joinSlot else none }
  | .state _ =>
    s.withLink { l with
      stateSlot := if a.replaced then l.stateSlot else none
      receiveErrors := 0
      ahead := 0
      testRequest := !a.underTest && l.testRequest }
  | .handoff _ =>
    s.withLink { l with
      queue := l.queue.tail
      ahead := if l.stateSlot.isSome then min 3 (l.ahead + 1) else 0 }

/-- Entry into CLASHED: slots and queue emptied, both permits deasserted, the engine ordered to unload, PEER CHANGE
raised with LINK CLASHED; a later cause changes nothing (R7, R39). -/
def enterClashed (cause : ClashCause) (s : State) : State :=
  if s.link.state = .clashed then s
  else
    let s1 := s.withLink { s.link with
      state := .clashed
      clashCause := cause
      alarmSlot := none
      stateSlot := none
      joinSlot := none
      queue := []
      ahead := 0
      attempt := none }
    peerChange .linkClashed s.cfg.station
      (orderUnload (.handBack .clashed) (dropFeed .clashed (refreshStore s1)))

/-- Whether the receiver takes what it hears: the blocks are active and no frame of the station's own is on the line
(R10). -/
def receiving (s : State) : Bool := active s && s.link.attempt.isNone

/-- One receive error, where the receiver takes what it hears (R1, R2, R9, R10). -/
def hearError (s : State) : State := if receiving s then countReceiveError s else s

/-- A frame heard whole: one that fails a range counts an error (R9); one under the own number is a clash (R6); one
addressed elsewhere is discarded (R9); any other is passed to its block. -/
def hearFrame (ok : Bool) (station : Nat) (destination : Option Nat) (act : State → State) (s : State) : State :=
  if receiving s then
    if ok then
      if station = s.cfg.station then enterClashed .selfHeard s
      else if destination.all (fun d => decide (d = s.cfg.station)) then act s
      else s
    else countReceiveError s
  else s

end Sys2Proof.Machine
end

