-- ==== Sys2Proof/Machine/StartOps.lean ====
section
/-! DEFINITION. The Start Unit: the layout of the configuration block (R197), its ranges and relations (R115, R198), SAFE
HALT (R201), taking the configuration (R195, R198), and the epoch step (R199, R200). -/

namespace Sys2Proof.Machine

open Sys2Proof

/-! ## The configuration block (R197) -/

/-- The length of the block with its check. -/
def blockLength : Nat := 564

/-- The place of curve `k`. -/
def curvePlace (k : Nat) : Nat := 249 + 43 * k

/-- The place of the filter settings of channel `n`, from 1. -/
def filterPlace (n : Nat) : Nat := 477 + 5 * (n - 1)

def modeOf : Nat → Option AdmissionMode
  | 0 => some .opened | 1 => some .listed | 2 => some .closed | _ => none

/-- The code of a detector kind in the order of the configuration table. -/
def configKindOf : Nat → Option DetectorKind
  | 0 => some .heat | 1 => some .gas | 2 => some .spark | 3 => some .flame | 4 => some .absent | _ => none

def divertOf : Nat → Option DivertSource
  | 0 => some .alwaysFalse | 1 => some .alwaysTrue | 2 => some .digital1 | 3 => some .digital2 | 4 => some .digital3
  | 5 => some .digital4 | 6 => some .destinationSilent | 7 => some .destinationRefusing | _ => none

/-- A destination: 0 is none. -/
def destinationIn (v : Nat) : Option Nat := if v = 0 then none else some v

/-- Sixteen set or clear values from two bytes, the first in the most significant bit (R185). -/
def sixteenOf (v : Nat) : Sixteen Bool := Vector.ofFn (fun k : Fin 16 => natBit v (15 - k.val))

/-- The knots of a curve. -/
def knotsOf (b : List Byte) (place : Nat) : List (Nat × Nat) :=
  (List.range 9).map (fun j => (field b (place + 1 + 4 * j) 2, field b (place + 3 + 4 * j) 2))

/-- Curve `k` of the block. -/
def readCurve (b : List Byte) (k : Nat) : Curve :=
  let p := curvePlace k
  { inUse := decide (field b p 1 = 1), knots := knotsOf b p, cellMin := field b (p + 37) 2,
    cellMax := field b (p + 39) 2, endVoltage := field b (p + 41) 2 }

/-- The filter settings of channel `n` of the block. -/
def readChannel (b : List Byte) (n : Nat) : ChannelSettings :=
  let p := filterPlace n
  { invert := natBit (field b p 1) 0, enabled := natBit (field b p 1) 1, countA := field b (p + 1) 2,
    countB := field b (p + 3) 2 }

/-- The unique IDs in the first places of the allow list. -/
def readAllowList (b : List Byte) : List UniqueId :=
  (List.range (field b 5 1)).map (fun j => BitVec.ofNat 64 (field b (6 + 8 * j) 8))

/-- The settings that a block holds; a byte that names no member of a range stands for the first member here, and
`rangeTests` refuses it. -/
def readSettings (b : List Byte) : Settings :=
  { station := field b 0 1
    role := (roleOf (field b 1 1)).getD .bay
    zone := field b 2 1
    periodCode := field b 3 1
    admissionMode := (modeOf (field b 4 1)).getD .opened
    allowList := readAllowList b
    defaultDestination := destinationIn (field b 246 1)
    alternateDestination := destinationIn (field b 247 1)
    quarantineDestination := destinationIn (field b 248 1)
    curves := Vector.ofFn (fun k : Fin 4 => readCurve b k.val)
    iBay := field b 421 2
    stepCurrent := field b 423 2
    rampInterval := field b 425 1
    settleCount := field b 426 1
    settleTimeout := field b 427 2
    restTime := field b 429 2
    releaseLimit := field b 431 4
    releaseCellVoltage := field b 435 2
    zeroThreshold := field b 437 2
    maxPackEnergy := field b 439 4
    energyLimit := field b 443 4
    derateTemp := signedField b 447 2
    stopTemp := signedField b 449 2
    o2Good := field b 451 2
    o2Watch := field b 453 2
    o2Trip := field b 455 2
    disagreeLimit := field b 457 2
    purgeMax := field b 459 2
    grantHold := field b 461 1
    releaseDelay := field b 462 1
    suppressionOwned := decide (field b 463 1 = 1)
    revert := decide (field b 464 1 = 1)
    detectorKinds := Vector.ofFn (fun k : Fin 4 => (configKindOf (field b (465 + k.val) 1)).getD .absent)
    thresholds := Vector.ofFn (fun k : Fin 4 => field b (469 + 2 * k.val) 2)
    channels := Vector.ofFn (fun k : Fin 16 => readChannel b (k.val + 1))
    divertSource := (divertOf (field b 557 1)).getD .alwaysFalse
    kindMasks := sixteenOf (field b 558 2)
    channelMasks := sixteenOf (field b 560 2) }

/-! ## Ranges and relations (R198) -/

/-- A quantity from `lo` to `hi`. -/
def within (lo hi v : Nat) : Bool := decide (lo ≤ v ∧ v ≤ hi)

/-- The ranges of a curve in use (R115); of a curve not in use only the in-use byte is tested (log entry 21). -/
def curveRangeOk (inUse : Nat) (c : Curve) : Bool :=
  decide (inUse ≤ 1)
    && (!c.inUse
      || (c.knots.all (fun k => within 0 65534 k.1 && within 0 1000 k.2) && within 0 65534 c.cellMin
        && within 0 65534 c.cellMax && within 0 65534 c.endVoltage))

/-- A temperature from −400 to 1500. -/
def temperatureOk (t : Int) : Bool := decide (-400 ≤ t ∧ t ≤ 1500)

/-- Test 2: every field with its index and whether it lies within its range, in the order of the table. -/
def rangeTests (b : List Byte) (c : Settings) : List (ConfigField × Option Nat × Bool) :=
  [ (.station, none, within 1 31 c.station), (.role, none, (roleOf (field b 1 1)).isSome),
    (.zone, none, within 1 8 c.zone), (.periodCode, none, within 2 20 c.periodCode),
    (.admissionMode, none, (modeOf (field b 4 1)).isSome), (.allowList, none, within 0 30 (field b 5 1)),
    (.defaultDestination, none, within 0 31 (field b 246 1)),
    (.alternateDestination, none, within 0 31 (field b 247 1)),
    (.quarantineDestination, none, within 0 31 (field b 248 1)) ]
  ++ (List.range 4).map (fun k => (.curve, some k, curveRangeOk (field b (curvePlace k) 1) (readCurve b k)))
  ++ [ (.iBay, none, within 100 40000 c.iBay), (.stepCurrent, none, within 50 1000 c.stepCurrent),
    (.rampInterval, none, within 1 50 c.rampInterval), (.settleCount, none, within 5 255 c.settleCount),
    (.settleTimeout, none, within 10 1000 c.settleTimeout), (.restTime, none, within 1 600 c.restTime),
    (.releaseLimit, none, true), (.releaseCellVoltage, none, within 0 65534 c.releaseCellVoltage),
    (.zeroThreshold, none, within 1 1000 c.zeroThreshold), (.maxPackEnergy, none, decide (1 ≤ c.maxPackEnergy)),
    (.energyLimit, none, true), (.derateTemp, none, temperatureOk c.derateTemp),
    (.stopTemp, none, temperatureOk c.stopTemp), (.o2Good, none, within 0 2500 c.o2Good),
    (.o2Watch, none, within 0 2500 c.o2Watch), (.o2Trip, none, within 0 2500 c.o2Trip),
    (.disagreeLimit, none, within 0 2500 c.disagreeLimit), (.purgeMax, none, within 10 1800 c.purgeMax),
    (.grantHold, none, within 5 120 c.grantHold), (.releaseDelay, none, within 0 60 c.releaseDelay),
    (.suppressionOwned, none, within 0 1 (field b 463 1)), (.revert, none, within 0 1 (field b 464 1)) ]
  ++ (List.range 4).map (fun k => (.detectorKind, some (k + 1), (configKindOf (field b (465 + k) 1)).isSome))
  ++ (List.range 4).map (fun k => (.threshold, some (k + 1), within 0 65000 (field b (469 + 2 * k) 2)))
  ++ sixteenNumbers.map (fun n => (.filterSettings, some n, within 0 3 (field b (filterPlace n) 1)))
  ++ [ (.divertSource, none, (divertOf (field b 557 1)).isSome), (.kindMasks, none, true),
    (.channelMasks, none, true) ]

/-- No unique ID appears twice. -/
def noneTwice : List UniqueId → Bool
  | [] => true
  | a :: rest => !rest.contains a && noneTwice rest

/-- Strictly increasing voltages and never decreasing fractions (R115). -/
def knotsRise : List (Nat × Nat) → Bool
  | [] => true
  | [_] => true
  | a :: b :: rest => decide (a.1 < b.1 ∧ a.2 ≤ b.2) && knotsRise (b :: rest)

/-- A curve in use meets R115. -/
def curveOk (c : Curve) : Bool :=
  !c.inUse || (knotsRise c.knots && decide (c.cellMin ≤ c.cellMax) && curveRangeOk 1 c)

/-- Whether detector `n` is of a contact kind. -/
def contactDetector (c : Settings) (n : Nat) : Bool :=
  let k := at1 .absent c.detectorKinds n
  decide (k = .spark ∨ k = .flame)

/-- DIVERT reads no contact of a contact detector. -/
def divertContactOk (c : Settings) : Bool :=
  match c.divertSource with
  | .digital1 => !contactDetector c 1
  | .digital2 => !contactDetector c 2
  | .digital3 => !contactDetector c 3
  | .digital4 => !contactDetector c 4
  | .alwaysFalse => true | .alwaysTrue => true | .destinationSilent => true | .destinationRefusing => true

/-- DIVERT reads no destination source while the default destination is none. -/
def divertDestinationOk (c : Settings) : Bool :=
  match c.divertSource with
  | .destinationSilent => c.defaultDestination.isSome
  | .destinationRefusing => c.defaultDestination.isSome
  | .alwaysFalse => true | .alwaysTrue => true | .digital1 => true | .digital2 => true | .digital3 => true
  | .digital4 => true

/-- Test 3: the relations in the order listed, each with its first field. -/
def relationTests (c : Settings) : List (ConfigField × Option Nat × Bool) :=
  [ (.allowList, none, noneTwice c.allowList),
    (.defaultDestination, none, decide (c.defaultDestination ≠ some c.station)),
    (.alternateDestination, none, decide (c.alternateDestination ≠ some c.station)),
    (.quarantineDestination, none, decide (c.quarantineDestination ≠ some c.station)),
    (.stepCurrent, none, decide (c.stepCurrent ≤ c.iBay / 2)),
    (.settleTimeout, none, decide (c.settleCount < c.settleTimeout)),
    (.o2Good, none, decide (c.o2Good < c.o2Watch ∧ c.o2Watch < c.o2Trip)),
    (.derateTemp, none, decide (c.derateTemp < c.stopTemp)) ]
  ++ (List.range 4).map (fun k => (.curve, some k, curveOk (at1 {} c.curves (k + 1))))
  ++ [ (.divertSource, none, divertContactOk c), (.divertSource, none, divertDestinationOk c) ]

/-- The first test of a list that fails. -/
def firstFailing (tests : List (ConfigField × Option Nat × Bool)) : Option (ConfigField × Option Nat) :=
  (tests.find? (fun t => !t.2.2)).map (fun t => (t.1, t.2.1))

/-- The stored check of a block. -/
def storedCheckOf (b : List Byte) : Check := BitVec.ofNat 16 (field b 562 2)

/-- The start checks of a block: the failing field, or none where every test passes (R198). -/
def checkBlock (b : List Byte) : Option Failing :=
  if frameCheck (b.take 562) ≠ storedCheckOf b then some .check
  else match firstFailing (rangeTests b (readSettings b)) with
    | some (f, k) => some (.range f k)
    | none =>
      match firstFailing (relationTests (readSettings b)) with
      | some (f, k) => some (.relation f k)
      | none => none

/-! ## LOADING -/

/-- The first acknowledged answer of at most three tries (R198). -/
def firstAck {α : Type} (tries : List (Option α)) : Option α := (tries.take 3).findSome? id

/-- A memory answer that has the block's length; one of another length is none (log entry 20). -/
def blockAnswer (a : Option (List Byte)) : Option (List Byte) := a.filter (fun b => decide (b.length = blockLength))

/-- The block that the memory answered. -/
def readBlock (tries : List (Option (List Byte))) : Option (List Byte) := firstAck (tries.map blockAnswer)

/-! ## The configuration line (R197) -/

/-- How many of at most three tries are made: up to the first that is acknowledged (R198). -/
def triesMade (acks : List Bool) : Nat :=
  match acks.take 3 with
  | true :: _ => 1
  | false :: true :: _ => 2
  | _ => 3

/-- A transaction on the configuration line: the bus address hexadecimal 50, the memory address in two bytes, the more
significant first, the bytes written, and the number of bytes then read (R197). -/
def transaction (memoryAddress : Nat) (written : List Byte) (read : Nat) : LineTransaction :=
  { address := 0x50, sent := beBytes 2 memoryAddress ++ written, read := read }

/-- The memory address of the configuration block, and that of the epoch byte (R197). -/
def blockAddress : Nat := 0
def epochAddress : Nat := 1023

/-- The Start Unit makes a transaction as often as it takes (log entry 43). -/
def makeTransactions (x : LineTransaction) (acks : List Bool) (s : State) : State :=
  s.withStart { s.start with transactions := s.start.transactions ++ List.replicate (triesMade acks) x }

/-- The fields that stand before the curves in the table of R198. -/
def beforeCurves : List ConfigField :=
  [.station, .role, .zone, .periodCode, .admissionMode, .allowList, .defaultDestination, .alternateDestination,
    .quarantineDestination]

/-- How many curves, from curve 0, lie within their ranges before the failing field: all four where a relation failed,
none where the block was not read or its check failed. -/
def curvesReached : Failing → Nat
  | .memory => 0
  | .check => 0
  | .range f k => if f ∈ beforeCurves then 0 else if f = .curve then k.getD 0 else 4
  | .relation _ _ => 4

/-- The curves held in SAFE HALT: read from the configuration as far as the checks have gone (R114, log entry 44). -/
def curvesHeld (b : List Byte) (f : Failing) : Vector Curve 4 :=
  Vector.ofFn (fun k : Fin 4 => if k.val < curvesReached f then readCurve b k.val else {})

/-- Entry into SAFE HALT (R201): PEER CHANGE is raised and its note not written. -/
def safeHalt (f : Failing) (s : State) : State :=
  raise .peerChange (s.withStart { s.start with phase := .safeHalt, failing := some f })

/-- The blocks take the configuration, the masks their configured values, and the attention output is formed afresh
(R195, R198). -/
def takeConfiguration (c : Settings) (s : State) : State :=
  let s1 := (s.withCfg c).withStart { s.start with configTaken := true }
  let s2 := refreshStore (s1.withPeers { s1.peers with mode := c.admissionMode })
  s2.withPort (formAttention { s2.port with kindMasks := c.kindMasks, channelMasks := c.channelMasks })

/-- The configuration read (R197, R198). The whole block is one read transaction, tried three times in all (DESIGN CHOICE, log
entry 60). -/
def configurationRead (tries : List (Option (List Byte))) (s0 : State) : State :=
  let s := makeTransactions (transaction blockAddress [] blockLength) (tries.map (fun a => (blockAnswer a).isSome)) s0
  match readBlock tries with
  | none => safeHalt .memory s
  | some b =>
    let s1 := s.withStart { s.start with storedCheck := some (storedCheckOf b) }
    match checkBlock b with
    | some f => safeHalt f (s1.withCfg { s1.cfg with curves := curvesHeld b f })
    | none => takeConfiguration (readSettings b) s1

/-- The own epoch that an epoch byte gives: one more, modulo 256; a byte that could not be read is taken as 0 (R199). -/
def nextEpoch (tries : List (Option Byte)) : Nat := (((firstAck tries).map (fun b => b.toNat)).getD 0 + 1) % 256

/-- Whether the epoch write succeeds: acknowledged within three tries, and read back as written (R199). -/
def epochWritten (epoch : Nat) (writeAcks : List Bool) (readBacks : List (Option Byte)) : Bool :=
  (writeAcks.take 3).any id && ((firstAck readBacks).any (fun b => decide (b.toNat = epoch)))

/-- Entry into LISTENING: the period and sample timers start, and the Start Unit places a JOIN (R200). -/
def enterListening (s : State) : State :=
  let s1 := s.withStart { s.start with phase := .listening }
  let s2 := s1.withPeers { s1.peers with periodTimer := true }
  let s3 := s2.withBank { s2.bank with sampleTimer := true }
  placeJoin (ownJoin s3) s3

/-- The transactions of the epoch step: the epoch byte is read, written back and read again (R197, R199, log
entry 43). -/
def epochTransactions (epoch : Nat) (reads : List (Option Byte)) (writeAcks : List Bool) (readBacks : List (Option Byte))
    (s : State) : State :=
  let readByte := transaction epochAddress [] 1
  let s1 := makeTransactions readByte (reads.map (fun a => a.isSome)) s
  let s2 := makeTransactions (transaction epochAddress [BitVec.ofNat 8 epoch] 0) writeAcks s1
  makeTransactions readByte (readBacks.map (fun a => a.isSome)) s2

/-- The epoch step (R199). -/
def epochStep (reads : List (Option Byte)) (writeAcks : List Bool) (readBacks : List (Option Byte)) (s0 : State) :
    State :=
  let e := nextEpoch reads
  let ok := epochWritten e writeAcks readBacks
  let s := epochTransactions e reads writeAcks readBacks s0
  let s1 := enterListening (s.withStart { s.start with
    epoch := some e
    outcome := some (if ok then .written else .failed) })
  if ok then s1 else peerChange .epochWrite s.cfg.station s1

end Sys2Proof.Machine
end

