-- ==== Sys2Proof/Machine/StartSteps.lean ====
section
/-! DEFINITION. The meanings of the commands of the start (chapter 12): START RESET, CONFIGURATION READ, EPOCH WRITE,
ENTER RUNNING. -/

namespace Sys2Proof.Machine

open Sys2Proof

/-- The answer of every command of the part. -/
abbrev Answer := Host.Outcome State Fault Refusal

/-- START_RESET: every block at its start values, in every phase; the factory identity stays, and so do the commands
that wait (R196). -/
def execStartReset (s : State) : Answer :=
  .next { State.reset with uniqueId := s.uniqueId, pending := s.pending, draws := s.draws }

/-- CONFIGURATION_READ: in LOADING, before the configuration has been taken (R198). -/
def execConfigurationRead (tries : List (Option (List Byte))) (s : State) : Answer :=
  if s.start.phase = .loading ∧ s.start.configTaken = false then .next (configurationRead tries s) else .next s

/-- EPOCH_WRITE: in LOADING, after the configuration has passed (R199, R200). -/
def execEpochWrite (reads : List (Option Byte)) (writeAcks : List Bool) (readBacks : List (Option Byte)) (s : State) :
    Answer :=
  if s.start.phase = .loading ∧ s.start.configTaken = true then .next (epochStep reads writeAcks readBacks s)
  else .next s

/-- ENTER_RUNNING: the step that the third period timer expiry of LISTENING makes due (R200). -/
def execEnterRunning (s : State) : Answer := .next (takeEnterRunning (dueCountdown s))

end Sys2Proof.Machine
end

