-- ==== Sys2Proof/Machine/LinkSteps.lean ====
section
/-! DEFINITION. The meanings of the Line Link's transmitter and of its receive errors (chapter 2). -/

namespace Sys2Proof.Machine

open Sys2Proof

/-- QUIET_INTERVAL_END: an ACTIVE station with no attempt on the line begins the frame it chooses (R3, R10, R12, R16). -/
def execQuietIntervalEnd (s : State) : Answer :=
  .next (whenActive (fun s =>
    if s.link.state = .active ∧ s.link.attempt = none then
      match chooseFrame s.link with
      | some f => s.withLink { s.link with attempt := some (attemptOn s.link f) }
      | none => s
    else s) s)

/-- CONTENTION_LOST: within the seven key bits the station drove recessive and read dominant (R4). -/
def execContentionLost (bit : Nat) (s : State) : Answer :=
  .next (whenActive (fun s =>
    match s.link.attempt with
    | some a => if isKeyBit bit = true ∧ drives a bit = some true then endAttempt a s else s
    | none => s) s)

/-- An aborted attempt: the clash suspicion count rises, and at 3 the link state becomes CLASHED (R5). -/
def abortAttempt (a : Attempt) (s : State) : State :=
  let s1 := endAttempt a s
  let s2 := s1.withLink { s1.link with suspicion := s1.link.suspicion + 1 }
  if 3 ≤ s2.link.suspicion then enterClashed .aborts s2 else s2

/-- FRAME_ABORT: any other difference in a bit time of the frame (R5). -/
def execFrameAbort (bit : Nat) (s : State) : Answer :=
  .next (whenActive (fun s =>
    match s.link.attempt with
    | some a =>
      match drives a bit with
      | some level => if isKeyBit bit = true ∧ level = true then s else abortAttempt a s
      | none => s
    | none => s) s)

/-- FRAME_COMPLETE: the attempt has been sent to its end (R5, R6, R10 to R14, R16). -/
def execFrameComplete (s : State) : Answer :=
  .next (whenActive (fun s =>
    match s.link.attempt with
    | some a => completeAttempt a s
    | none => s) s)

/-- FRAMING_ERROR: a stop bit found dominant (R1). -/
def execFramingError (s : State) : Answer := .next (whenActive hearError s)

/-- INCOMPLETE_FRAME: the line idle before the last byte promised (R2). -/
def execIncompleteFrame (s : State) : Answer := .next (whenActive hearError s)

/-- MALFORMED_LENGTH: a length field below 8 or above 72 (R2). -/
def execMalformedLength (length : Byte) (s : State) : Answer :=
  .next (whenActive (fun s => if length.toNat < 8 ∨ 72 < length.toNat then hearError s else s) s)

/-- BAD_FRAME: a complete frame that fails a receipt check (R8, R9). -/
def execBadFrame (bytes : List Byte) (s : State) : Answer :=
  .next (whenActive (fun s => if receipt bytes = none then hearError s else s) s)

end Sys2Proof.Machine
end

