-- ==== Sys2Proof/Machine/FrameSteps.lean ====
section
/-! DEFINITION. The meanings of the frames received (R9 and the rules of the blocks that own their subjects). -/

namespace Sys2Proof.Machine

open Sys2Proof

/-! ## STATE, JOIN, ALARM -/

/-- STATE_RECEIVED (R24, R26, R37). -/
def execStateReceived (f : StateFrame) (s : State) : Answer :=
  .next (whenActive (hearFrame (stateOk f) f.station none (takeState f)) s)

/-- JOIN_RECEIVED (R22, R23). -/
def execJoinReceived (f : JoinFrame) (s : State) : Answer :=
  .next (whenActive (hearFrame (joinOk f) f.station none (takeJoin f)) s)

/-- An ALARM that may act, by its test flag and level (R156). -/
def takeAlarm (f : AlarmFrame) (s : State) : State :=
  if f.testFlag then s
  else match f.level with
    | .normal => s
    | .prealarm =>
      if (realDetectors s).isEmpty then s else confirmRise (ownCause s) (.peer f.station (some f.cause)) s
    | .alarmUnconfirmed => memberRise .alarmUnconfirmed (.peer f.station (some f.cause)) s
    | .alarmConfirmed => memberRise .alarmConfirmed (.peer f.station (some f.cause)) s
    | .countdown => memberRise .countdown (.peer f.station (some f.cause)) s
    | .released => memberRise .released (.peer f.station (some f.cause)) s

/-- An ALARM of an ADMITTED sender: it acts where R33 allows it, else it is discarded and counted. -/
def judgeAlarm (f : AlarmFrame) (s : State) : State :=
  if alarmMayAct s f then takeAlarm f s else countDiscard f.station s

/-- ALARM_RECEIVED (R24, R33, R156). -/
def execAlarmReceived (f : AlarmFrame) (s : State) : Answer :=
  .next (whenActive (hearFrame (alarmOk f) f.station none (fromAdmitted f.station (judgeAlarm f))) s)

/-! ## OFFER -/

/-- A REFUSE to the sender of an OFFER is placed (R68). -/
def placeRefuse (h : HandoffHead) (r : RefusalReason) (s : State) : State :=
  placeHandoff (.refuse { head := headTo s h.station h.packId h.offerNumber, reason := r }) s

/-- The reservation that an OFFER repeats (R68, test 3). -/
def repeatedReservation (h : HandoffHead) (s : State) : Option Reservation :=
  s.store.reservations.find? (fun v =>
    decide (v.station = h.station ∧ v.packId = h.packId ∧ v.offerNumber = h.offerNumber))

/-- Tests 4 to 7 of R68 for a clamped record: the reason of the first that fails. -/
def offerTests (h : HandoffHead) (p : PackData) (s : State) : Option RefusalReason :=
  if (findRecord h.packId s).isSome ∨ (findReservation h.packId s).isSome then some .duplicate
  else if 8 ≤ entriesHeld s then some .full
  else if s.zone.level ≠ .normal then some .alarm
  else if s.cfg.role = .chamber then grantTest p s
  else none

/-- The Pack Store's answer to an OFFER (R68, R69). -/
def answerOffer (f : OfferFrame) (s : State) : State :=
  let h := f.head
  if s.cfg.role = .bay then placeRefuse h .role s
  else if (s.peer h.station).admission ≠ .admitted then placeRefuse h .notAdmitted s
  else match repeatedReservation h s with
    | some v => placeGrant v s
    | none =>
      match offerTests h (clampPack f.pack) s with
      | some r => placeRefuse h r s
      | none => createReservation h (clampPack f.pack) s

/-- An OFFER: counted where its sender is not ADMITTED, and passed to the Pack Store all the same (R24). -/
def takeOffer (f : OfferFrame) (s : State) : State :=
  answerOffer f
    (if (s.peer f.head.station).admission = .admitted then s else countUnadmitted f.head.station s)

/-- OFFER_RECEIVED (R24, R68, R69, R71). -/
def execOfferReceived (f : OfferFrame) (s : State) : Answer :=
  .next (whenActive (hearFrame (handoffOk (.offer f)) f.head.station (some f.head.destination) (takeOffer f)) s)

/-! ## GRANT, REFUSE, TAKEN, CANCEL -/

/-- Whether a record is in a state under the offer number and destination of a handoff frame received (R72, R79). -/
def matchesHead (h : HandoffHead) (st : RecordState) (r : PackRecord) : Bool :=
  decide (r.id = h.packId ∧ r.state = st ∧ r.destination = some h.station ∧ r.offerNumber = some h.offerNumber)

/-- Whether some record matches. -/
def anyMatches (h : HandoffHead) (st : RecordState) (s : State) : Bool := s.store.records.any (matchesHead h st)

/-- The transit time: 120 s and 10 P, in ms (R72). -/
def transitTime (s : State) : Nat := 120000 + 10 * (10 * s.cfg.periodCode)

/-- A matching GRANT (R72). -/
def takeGrant (h : HandoffHead) (s : State) : State :=
  if anyMatches h .offered s then
    handoffNote h.packId h.station .granted (clearStreak h.station
      (updateRecord h.packId (fun r => { r with
        state := .inTransit
        offerTimer := none
        transitTimer := some (transitTime s)
        data := addHistory s.cfg.station .passed r.data }) s))
  else if anyMatches h .inTransit s then s
  else countUnmatched s

/-- GRANT_RECEIVED (R24, R72). -/
def execGrantReceived (f : GrantFrame) (s : State) : Answer :=
  .next (whenActive (hearFrame (handoffOk (.grant f)) f.head.station (some f.head.destination)
    (fromAdmitted f.head.station (takeGrant f.head))) s)

/-- The reasons of a REFUSE that raise the refusal streak (R67). -/
def raisesStreak : RefusalReason → Bool
  | .full => true | .budget => true | .atmosphere => true
  | .alarm => false | .role => false | .quarantine => false | .duplicate => false | .notAdmitted => false

/-- A REFUSE (R73). -/
def takeRefuse (f : RefuseFrame) (s : State) : State :=
  let h := f.head
  if anyMatches h .offered s then
    let s1 := updateRecord h.packId (fun r => { r.into .ready with backOff := some 10 }) s
    let s2 := if raisesStreak f.reason then raiseStreak h.station s1 else s1
    handoffNote h.packId h.station (.refused f.reason) s2
  else countUnmatched s

/-- REFUSE_RECEIVED (R24, R73). -/
def execRefuseReceived (f : RefuseFrame) (s : State) : Answer :=
  .next (whenActive (hearFrame (handoffOk (.refuse f)) f.head.station (some f.head.destination)
    (fromAdmitted f.head.station (takeRefuse f))) s)

/-- The record with a pack ID gains DISPUTED, and DISPUTE is raised; a FEEDING record's permit drops (R77, R79, R145). -/
def markDisputed (id : PackId) (s : State) : State :=
  let s1 := updateRecord id (fun r => { r with data := { r.data with marks := { r.data.marks with disputed := true } } }) s
  let s2 := if (findRecord id s).any (fun r => decide (r.state = .feeding)) then dropFeed .mark s1 else s1
  raise .dispute s2

/-- A record that a TAKEN takes leaves the store (R77). -/
def recordTaken (f : TakenFrame) (s : State) : State :=
  let h := f.head
  let s1 := zoneTakesStore (countReleased (dropRecord h.packId s))
  raise .handoffDone (handoffNote h.packId h.station (if f.late then .takenLate else .taken) s1)

/-- A TAKEN, matched by pack ID alone (R77). -/
def takeTaken (f : TakenFrame) (s : State) : State :=
  let h := f.head
  match findRecord h.packId s with
  | none => countUnmatched s
  | some r =>
    if r.state = .inTransit ∨ r.state = .halted ∨ r.state = .adrift then recordTaken f s
    else
      handoffNote h.packId h.station .dispute
        (placeCancel h.station h.packId h.offerNumber .disputed (markDisputed h.packId s))

/-- TAKEN_RECEIVED (R24, R77). -/
def execTakenReceived (f : TakenFrame) (s : State) : Answer :=
  .next (whenActive (hearFrame (handoffOk (.taken f)) f.head.station (some f.head.destination)
    (fromAdmitted f.head.station (takeTaken f))) s)

/-- The record of a handoff frame received comes into a state; ADRIFT raises its event. -/
def recordInto (h : HandoffHead) (st : RecordState) (s : State) : State :=
  let s1 := updateRecord h.packId (fun r => r.into st) s
  if st = .adrift then raise .adrift s1 else s1

/-- What a CANCEL of each reason finds, and what it does there; none where it finds nothing (R79). -/
def cancelAction (f : CancelFrame) (s : State) : Option State :=
  let h := f.head
  match f.reason with
  | .abort => (repeatedReservation h s).map (fun v => dropReservation v s)
  | .alarm =>
    if anyMatches h .offered s then some (recordInto h .ready s)
    else if anyMatches h .inTransit s then some (recordInto h .halted s)
    else none
  | .lapsed =>
    if anyMatches h .inTransit s then some (recordInto h .adrift s)
    else if anyMatches h .offered s then some (recordInto h .ready s)
    else none
  | .disputed => (findRecord h.packId s).map (fun _ => markDisputed h.packId s)
  | .peerRestart =>
    match repeatedReservation h s with
    | some v => some (dropReservation v s)
    | none =>
      if anyMatches h .offered s then some (recordInto h .ready s)
      else if anyMatches h .inTransit s then some (recordInto h .adrift s)
      else none

/-- A CANCEL: taken and noted, or ignored and counted (R79). -/
def takeCancel (f : CancelFrame) (s : State) : State :=
  match cancelAction f s with
  | some s1 => handoffNote f.head.packId f.head.station (.cancelled f.reason) s1
  | none => countUnmatched s

/-- CANCEL_RECEIVED (R24, R79). -/
def execCancelReceived (f : CancelFrame) (s : State) : Answer :=
  .next (whenActive (hearFrame (handoffOk (.cancel f)) f.head.station (some f.head.destination)
    (fromAdmitted f.head.station (takeCancel f))) s)

end Sys2Proof.Machine
end

