-- ==== Sys2Proof/Machine/TimerSteps.lean ====
section
/-! DEFINITION. The meanings of the timer expiries (chapters 3, 5, 8, 9), of the measurement port (chapter 4), and of the
steps that an expiry makes due (chapters 6, 9). -/

namespace Sys2Proof.Machine

open Sys2Proof

/-! ## Timers of the line -/

/-- PERIOD_TIMER_EXPIRY: in LISTENING the first two place a JOIN and the third leaves ENTER RUNNING due; in RUNNING a
STATE is built and an offer examined (R20, R35, R37, R38, R63, R67, R200). -/
def execPeriodTimerExpiry (s : State) : Answer :=
  .next (whenActive (fun s =>
    if s.peers.periodTimer then
      let s1 := advancePeriod s
      if s.start.phase = .running then runningPeriod s1
      else if s1.peers.periodCount ≤ 2 then placeJoin (ownJoin s1) s1
      else s1
    else s) s)

/-- START_WINDOW_CLOSE: the step that the twentieth period timer expiry makes due (R21). -/
def execStartWindowClose (s : State) : Answer := .next (takeStartWindowClose (dueRunning s))

/-- REFUSAL_STREAK_QUIET: a quiet count of 20 returns a station's streak to 0 (R67). -/
def execRefusalStreakQuiet (station : Nat) (s : State) : Answer := .next (takeStreakQuiet station (dueWindow s))

/-- SILENCE_TIMER_EXPIRY: a MISS for an ADMITTED entry, whose timer runs on for P; for any other the heard flag clears
and the timer stops (R29, R34). -/
def execSilenceTimerExpiry (station : Nat) (s : State) : Answer :=
  .next (whenActive (fun s =>
    let e := s.peer station
    if e.silenceTimer.isSome then
      if e.admission = .admitted then
        peerHandover station (s.setPeer station { e.record .miss .silence with silenceTimer := some 2 })
      else s.setPeer station { e with heard := false, silenceTimer := none }
    else s) s)

/-! ## Measurement -/

/-- SAMPLE_SET_ARRIVAL: a burst that is a complete sample set waits for the next expiry, in place of an older one; any
other counts as no arrival (R41, R42). -/
def execSampleSetArrival (burst : List Byte) (strayBits : Nat) (s : State) : Answer :=
  .next (whenActive (fun s =>
    if completeSet burst strayBits then s.withBank { s.bank with arrived := some (sampleSetOf burst) } else s) s)

/-- SAMPLE_TIMER_EXPIRY (R42 to R54, R94, R129, R138, R153). -/
def execSampleTimerExpiry (contacts : Contacts) (s : State) : Answer :=
  .next (whenActive (fun s => if s.bank.sampleTimer then sampleExpiry contacts s else s) s)

/-! ## Steps that a sample timer expiry makes due -/

/-- RAMP_STEP (R94). -/
def execRampStep (s : State) : Answer := .next (takeRampStep (dueLoss s))

/-- SETTLE_TIMEOUT (R96). -/
def execSettleTimeout (s : State) : Answer := .next (takeSettleTimeout (dueLoadStuck s))

/-- MEASUREMENT_LOSS (R98). -/
def execMeasurementLoss (s : State) : Answer := .next (takeMeasurementLoss s)

/-- UNLOAD_COMPLETE (R103). -/
def execUnloadComplete (s : State) : Answer := .next (takeUnloadComplete (dueRamp s))

/-- REST_CURRENT_FAULT (R104). -/
def execRestCurrentFault (s : State) : Answer := .next (takeRestCurrentFault (dueUnload s))

/-- LOAD_STUCK (R109). -/
def execLoadStuck (s : State) : Answer := .next (takeLoadStuck (dueRestCurrent s))

/-- CONTACTOR_CHECK_EXPIRY (R91, R110). -/
def execContactorCheckExpiry (s : State) : Answer := .next (takeContactorCheck (dueRest s))

/-- REST_TIMER_EXPIRY (R105, R123). -/
def execRestTimerExpiry (s : State) : Answer := .next (takeRestTimerExpiry (dueSettle s))

/-- COUNTDOWN_END (R161, R162). -/
def execCountdownEnd (s : State) : Answer := .next (takeCountdownEnd (dueCheck s))

/-! ## Timers of the Pack Store -/

/-- An offer timer expiry of an OFFERED record (R66). -/
def offerExpiry (r : PackRecord) (s : State) : State :=
  if r.sendCount < 3 then
    placeOffer r (updateRecord r.id (fun x => { x with sendCount := x.sendCount + 1, offerTimer := some 4 }) s)
  else
    let n := r.destination.getD 0
    raise .noReply (handoffNote r.id n .noReply (raiseStreak n (updateRecord r.id (fun x => x.into .ready) s)))

/-- OFFER_TIMER_EXPIRY (R66). -/
def execOfferTimerExpiry (pack : PackId) (s : State) : Answer :=
  .next (whenActive (fun s =>
    match findRecord pack s with
    | some r => if r.state = .offered ∧ r.offerTimer.isSome = true then offerExpiry r s else s
    | none => s) s)

/-- BACK_OFF_EXPIRY (R73). -/
def execBackOffExpiry (pack : PackId) (s : State) : Answer :=
  .next (whenActive (fun s =>
    match findRecord pack s with
    | some r => if r.backOff.isSome then updateRecord pack (fun x => { x with backOff := none }) s else s
    | none => s) s)

/-- TRANSIT_TIMER_EXPIRY (R72). -/
def execTransitTimerExpiry (pack : PackId) (s : State) : Answer :=
  .next (whenActive (fun s =>
    match findRecord pack s with
    | some r =>
      if r.state = .inTransit ∧ r.transitTimer.isSome = true then
        handoffNote pack (r.destination.getD 0) .lapsed
          (raise .adrift (updateRecord pack (fun x => x.into .adrift) s))
      else s
    | none => s) s)

/-- GRANT_HOLD_EXPIRY (R78). -/
def execGrantHoldExpiry (pack : PackId) (s : State) : Answer :=
  .next (whenActive (fun s =>
    match findReservation pack s with
    | some v =>
      if v.holdTimer.isSome then
        handoffNote pack v.station .lapsed
          (placeCancel v.station v.packId v.offerNumber .lapsed (dropReservation v s))
      else s
    | none => s) s)

/-! ## The purge timer -/

/-- A purge timer expiry in PURGING (R133). -/
def purgeExpiry (s : State) : State :=
  if s.atm.attempts < 3 then
    noteAtm .purgeSlow (s.withAtm { s.atm with
      attempts := s.atm.attempts + 1
      purgeTimer := some s.cfg.purgeMax })
  else enterTrip .purgeFailed s

/-- PURGE_TIMER_EXPIRY (R133). -/
def execPurgeTimerExpiry (s : State) : Answer :=
  .next (whenActive (fun s =>
    if s.atm.state = .purging ∧ s.atm.purgeTimer.isSome = true then purgeExpiry s else s) s)

end Sys2Proof.Machine
end

