-- ==== Sys2Proof/Machine/RequestSteps.lean ====
section
/-! DEFINITION. The meanings of the requests of the station controller that change the part (R190), each with its cases in
the order of its owning rule. -/

namespace Sys2Proof.Machine

open Sys2Proof

/-- A request of the station port: what is due, then the gate of R202, then its owning rule. -/
def take (tag : Byte) (body : State → State) (s : State) : Answer := .next (request tag body (takeDue s))

/-! ## Link Controller, Peer Table, Filter Bank -/

/-- TEST_FRAME (R16). -/
def execTestFrame (tag : Byte) (s : State) : Answer :=
  take tag (fun s =>
    if s.link.state = .clashed then replyRefused tag .clashed s
    else replyDone tag [] (s.withLink { s.link with testRequest := true })) s

/-- SET_ADMISSION (R25). -/
def execSetAdmission (tag : Byte) (mode : Byte) (s : State) : Answer :=
  take tag (fun s =>
    match modeOf mode.toNat with
    | none => replyBad tag .parameter s
    | some m =>
      if channelOut s 9 = false then replyRefused tag .key s
      else
        let s1 := s.withPeers { s.peers with mode := m }
        replyDone tag [] (if m = .opened then s1 else examineAllListed s1)) s

/-- TEST_CHANNEL (R52). -/
def execTestChannel (tag : Byte) (channel : Byte) (s : State) : Answer :=
  take tag (fun s =>
    if channel.toNat < 1 ∨ 16 < channel.toNat then replyBad tag .parameter s
    else testChannelOf tag channel.toNat s) s

/-- TEST_DETECTOR (R167). -/
def execTestDetector (tag : Byte) (detector : Byte) (s : State) : Answer :=
  take tag (fun s =>
    if detector.toNat < 1 ∨ 4 < detector.toNat then replyBad tag .parameter s
    else testChannelOf tag detector.toNat s) s

/-! ## Pack Store -/

/-- Whether the parameters of ADMIT PACK lie within their ranges: the BAD row of R60, and the presence byte of R185. -/
def admitOk (p : AdmitParams) (s : State) : Bool :=
  decide (p.chemistry.toNat ≤ 3) && (curveOf s p.chemistry.toNat).inUse
    && decide (1 ≤ p.cells.toNat ∧ p.cells.toNat ≤ 240) && decide (p.eNom ≠ 0) && decide (p.iPack ≠ 0)
    && decide (p.grade.toNat ≤ 3) && decide (p.eDeclPresence.toNat ≤ 1)

/-- The declared energy that ADMIT PACK carries, where it carries one; under a presence byte of 0 its bytes are not looked at
(DESIGN CHOICE, log entry 56). -/
def carriedDeclared (p : AdmitParams) : Option Nat :=
  if p.eDeclPresence.toNat = 1 then some p.eDecl.toNat else none

/-- Whether ADMIT PACK clamps a value (R60). -/
def admitClamps (p : AdmitParams) : Bool :=
  (carriedDeclared p).any (fun e => decide (p.eNom.toNat < e)) || decide (40000 < p.iPack.toNat)

/-- The data of the record that ADMIT PACK creates (R60). -/
def admitData (p : AdmitParams) (s : State) : PackData :=
  { chemistry := p.chemistry.toNat
    cells := p.cells.toNat
    eNom := p.eNom.toNat
    eDecl := (carriedDeclared p).map (fun e => min e p.eNom.toNat)
    iPack := min 40000 p.iPack.toNat
    grade := p.grade.toNat
    marks := { damaged := decide (p.grade.toNat = 3) }
    history := [{ station := s.cfg.station, outcome := .admitted }] }

/-- The record that ADMIT PACK creates joins the store (R60, R61, R150, R170). -/
def admitPack (p : AdmitParams) (s : State) : State :=
  let r : PackRecord := { id := p.packId, data := admitData p s, state := .held }
  zoneTakesStore (holdRecord p.packId (countAdmitted (joinRecord r s)))

/-- ADMIT_PACK (R60). -/
def execAdmitPack (tag : Byte) (p : AdmitParams) (s : State) : Answer :=
  take tag (fun s =>
    if s.cfg.role ≠ .bay then replyRefused tag .role s
    else if admitOk p s = false then replyBad tag .parameter s
    else if (findRecord p.packId s).isSome ∨ (findReservation p.packId s).isSome then replyRefused tag .duplicate s
    else if 8 ≤ entriesHeld s then replyRefused tag .full s
    else
      formReply { code := .done, tag := tag, reason := if admitClamps p then .clamped else .none } (admitPack p s)) s

/-- A record comes to READY from a state other than OFFERED and IN TRANSIT, which raises RECORD READY (R61). -/
def makeReady (pack : PackId) (s : State) : State :=
  raise .recordReady (updateRecord pack (fun r => r.into .ready) s)

/-- FORWARD (R62). -/
def execForward (tag : Byte) (pack : PackId) (s : State) : Answer :=
  take tag (fun s =>
    if s.cfg.role ≠ .pass then replyRefused tag .role s
    else match findRecord pack s with
      | none => replyRefused tag .unknown s
      | some r =>
        if r.state = .held then replyDone tag [] (makeReady pack s)
        else if r.state = .ready then replyDone tag [] s
        else replyBusy tag s) s

/-- HOLD (R62). -/
def execHold (tag : Byte) (pack : PackId) (s : State) : Answer :=
  take tag (fun s =>
    if s.cfg.role ≠ .pass then replyRefused tag .role s
    else match findRecord pack s with
      | none => replyRefused tag .unknown s
      | some r =>
        if r.state = .ready then
          replyDone tag [] (updateRecord pack (fun x => { x.into .held with backOff := none }) s)
        else if r.state = .held then replyDone tag [] s
        else replyBusy tag s) s

/-- A history whose newest entry is a station's PASSED. -/
def newestPassed (n : Nat) (p : PackData) : Bool :=
  decide (p.history.getLast? = some { station := n, outcome := .passed })

/-- A record that an arrival creates: HELD at a CHAMBER, READY with its event at a PASS (R61, R75, R76). -/
def createArrived (pack : PackId) (p : PackData) (s : State) : State :=
  let s1 := joinRecord { id := pack, data := p, state := if s.cfg.role = .chamber then .held else .ready } s
  if s.cfg.role = .chamber then s1 else raise .recordReady s1

/-- An arrival that matches a reservation (R75). The Zone Unit is told of the record after the TAKEN has been placed
(DESIGN CHOICE, log entry 49). -/
def matchedArrival (v : Reservation) (s : State) : State :=
  let p := if newestPassed v.station v.pack then v.pack else addHistory v.station .passed v.pack
  zoneTakesStore (countReceived
    (placeTaken v.station v.packId v.offerNumber false (createArrived v.packId p (dropReservation v s))))

/-- The data of a placeholder (R76). -/
def placeholderData (s : State) : PackData :=
  { chemistry := 0
    cells := 1
    eNom := s.cfg.maxPackEnergy
    iPack := 1
    residual := some s.cfg.maxPackEnergy
    basis := .voltage
    marks := { untracked := true }
    history := [{ station := s.cfg.station, outcome := .admitted }] }

/-- An unexpected arrival with room for a placeholder (R76). The Zone Unit is told of the record after the TAKEN has been
placed (DESIGN CHOICE, log entry 49). -/
def unexpectedArrival (pack : PackId) (upstream : Nat) (s : State) : State :=
  let s1 := createArrived pack (placeholderData s) s
  let s2 := if upstream = 0 then s1 else placeTaken upstream pack 0 true s1
  raise .unexpectedArrival (handoffNote pack upstream .unexpectedArrival (zoneTakesStore (countReceived s2)))

/-- ARRIVED (R75, R76). -/
def execArrived (tag : Byte) (pack : PackId) (upstream : Byte) (s : State) : Answer :=
  take tag (fun s =>
    if 31 < upstream.toNat then replyBad tag .parameter s
    else if s.cfg.role = .bay then replyRefused tag .role s
    else if (findRecord pack s).isSome then replyRefused tag .duplicate (raise .unexpectedArrival s)
    else match findReservation pack s with
      | some v => replyDone tag [] (matchedArrival v s)
      | none =>
        if 16 ≤ entriesHeld s then replyRefused tag .full (raise .unexpectedArrival s)
        else replyDone tag [] (unexpectedArrival pack upstream.toNat s)) s

/-- RECOVER (R82). -/
def execRecover (tag : Byte) (pack : PackId) (s : State) : Answer :=
  take tag (fun s =>
    match findRecord pack s with
    | none => replyRefused tag .unknown s
    | some r =>
      if r.state = .halted ∨ r.state = .adrift then replyDone tag [] (makeReady pack s) else replyBusy tag s) s

/-- The states in which REMOVE takes a record (R83). -/
def removable : RecordState → Bool
  | .held => true | .ready => true | .halted => true | .adrift => true
  | .discharging => false | .offered => false | .inTransit => false | .feeding => false

/-- REMOVE (R83). -/
def execRemove (tag : Byte) (pack : PackId) (s : State) : Answer :=
  take tag (fun s =>
    match findRecord pack s with
    | some r =>
      if removable r.state then replyDone tag [] (zoneTakesStore (countRemoved (dropRecord pack s)))
      else replyBusy tag s
    | none => if (findReservation pack s).isSome then replyBusy tag s else replyRefused tag .unknown s) s

/-! ## Discharge Engine -/

/-- Whether a record is eligible for discharge (R89). -/
def eligible (s : State) (r : PackRecord) : Bool :=
  decide (r.state = .held) && !marksAny r.data.marks && decide (s.cfg.stepCurrent ≤ r.data.iPack)

/-- The candidate of START: the oldest eligible record (R89). -/
def startCandidate (s : State) : Option PackRecord := s.store.records.find? (eligible s)

/-- The candidate is bound and the engine enters CONNECT (R90). -/
def bindRecord (r : PackRecord) (s : State) : State :=
  recomputeTarget (onEngine (fun e => { (e.enter .connect).setPresent 0 with
    bound := some r.id
    settleRun := 0
    zeroRun := 0
    unloadCount := 0
    restRun := 0
    purpose := none
    faultCause := none
    checkTimer := some 50 }) (updateRecord r.id (fun x => x.into .discharging) s))

/-- The engine states in which START is answered BUSY (R89). -/
def startBusy : EngineState → Bool
  | .connect => true | .ramp => true | .run => true | .unload => true | .rest => true | .isolate => true
  | .idle => false | .done => false | .fault => false

/-- The last rows of R89's table: a record in FAULT is handed back, and the oldest eligible record bound. -/
def startOldest (tag : Byte) (s : State) : State :=
  let s1 := if s.engine.state = .fault then handBack s else s
  match startCandidate s1 with
  | none => replyRefused tag .empty s1
  | some r => replyDone tag [packItem r.id] (bindRecord r s1)

/-- START (R89, R90). -/
def execStart (tag : Byte) (s : State) : Answer :=
  take tag (fun s =>
    if s.cfg.role ≠ .bay then replyRefused tag .role s
    else if s.start.phase = .listening then replyRefused tag .starting s
    else if startBusy s.engine.state then replyBusy tag s
    else if isAlarm s.zone.level then replyRefused tag .alarm s
    else if s.link.state = .clashed then replyRefused tag .clashed s
    else if s.engine.status = .lost then replyRefused tag .measurement s
    else if channelOut s 6 then replyRefused tag .hot s
    else startOldest tag s) s

/-- STOP at a BAY, by engine state (R106). -/
def stopEngine (tag : Byte) (s : State) : State :=
  match s.engine.state with
  | .connect => replyDone tag [] (orderUnload (.handBack .stopped) s)
  | .ramp => replyDone tag [] (orderUnload (.handBack .stopped) s)
  | .run => replyDone tag [] (orderUnload (.handBack .stopped) s)
  | .rest => replyDone tag [] (orderUnload (.handBack .stopped) s)
  | .unload => replyDone tag [] (orderUnload (.handBack .stopped) s)
  | .fault => replyDone tag [] (handBack s)
  | .idle => replyRefused tag .idle s
  | .done => replyRefused tag .idle s
  | .isolate => replyRefused tag .isolated s

/-- STOP (R87, R106). -/
def execStop (tag : Byte) (s : State) : Answer :=
  take tag (fun s => if s.cfg.role ≠ .bay then replyRefused tag .role s else stopEngine tag s) s

/-! ## Atmosphere Unit -/

/-- PURGE (R131, R132). -/
def execPurge (tag : Byte) (s : State) : Answer :=
  take tag (fun s =>
    if s.cfg.role ≠ .chamber then replyRefused tag .role s
    else if s.atm.state = .purging then replyBusy tag s
    else if s.atm.state = .inert ∨ s.atm.state = .watch then replyRefused tag .active s
    else if channelOut s 7 = false then replyRefused tag .door s
    else if bothSuppliesLow s then replyRefused tag .supply s
    else replyDone tag [] (enterPurging s)) s

/-- The data byte of a NOT PERMITTED reply: bit 0 ATMOSPHERE, bit 1 ZONE, bit 2 MARK (R143). -/
def notPermittedByte (marked : Bool) (s : State) : Nat :=
  bitNat (!atmosphereFeeds s) + 2 * bitNat (decide (s.zone.level ≠ .normal)) + 4 * bitNat marked

/-- The feed conditions for a record with or without a mark (R145). -/
def feedConditions (marked : Bool) (s : State) : Bool :=
  atmosphereFeeds s && decide (s.zone.level = .normal) && !marked

/-- A NOT PERMITTED reply (R143). -/
def replyNotPermitted (tag : Byte) (marked : Bool) (s : State) : State :=
  formReply { code := .refused, tag := tag, reason := .because .notPermitted,
              data := [b1 (notPermittedByte marked s)] } s

/-- The feed permit is asserted. -/
def permitFeed (s : State) : State := s.withAtm { s.atm with feedPermit := true }

/-- A HELD record enters FEEDING (R144). -/
def beginFeed (r : PackRecord) (s : State) : State :=
  feedNote r.id .feeding (permitFeed (updateRecord r.id (fun x =>
    { x.into .feeding with data := addHistory s.cfg.station .fed x.data }) s))

/-- FEED for a record that is FEEDING already (R143). -/
def feedAgain (tag : Byte) (r : PackRecord) (s : State) : State :=
  if s.atm.feedPermit then replyBusy tag s
  else if feedConditions (marksAny r.data.marks) s then replyDone tag [packItem r.id] (permitFeed s)
  else replyNotPermitted tag (marksAny r.data.marks) s

/-- FEED with no record FEEDING (R143). -/
def feedNext (tag : Byte) (s : State) : State :=
  match oldestHeld s with
  | none => replyRefused tag .empty s
  | some r =>
    if marksAny r.data.marks then replyRefused tag .quarantine s
    else if feedConditions false s then replyDone tag [packItem r.id] (beginFeed r s)
    else replyNotPermitted tag false s

/-- FEED (R143, R144). -/
def execFeed (tag : Byte) (s : State) : Answer :=
  take tag (fun s =>
    if s.cfg.role ≠ .chamber then replyRefused tag .role s
    else if s.start.phase = .listening then replyRefused tag .starting s
    else if s.link.state = .clashed then replyRefused tag .clashed s
    else match feedingRecord s with
      | some r => feedAgain tag r s
      | none => feedNext tag s) s

/-- The cases of CONSUMED and WITHDRAW FEED (R146, R147). -/
def feedingOnly (tag : Byte) (pack : PackId) (done : PackRecord → State → State) (s : State) : State :=
  if s.cfg.role ≠ .chamber then replyRefused tag .role s
  else match findRecord pack s with
    | some r => if r.state = .feeding then replyDone tag [] (done r s) else replyRefused tag .notFeeding s
    | none =>
      if (findReservation pack s).isSome then replyRefused tag .notFeeding s else replyRefused tag .unknown s

/-- The FEEDING record has gone into the shredder (R146). -/
def consumeRecord (r : PackRecord) (s : State) : State :=
  let s1 := s.withAtm { s.atm with feedPermit := false }
  feedNote r.id .consumed (tallyConsumed r.id (packEnergy r.data) (zoneTakesStore (dropRecord r.id s1)))

/-- CONSUMED (R146). -/
def execConsumed (tag : Byte) (pack : PackId) (s : State) : Answer :=
  take tag (feedingOnly tag pack consumeRecord) s

/-- The FEEDING record has been drawn back (R147). -/
def withdrawRecord (r : PackRecord) (s : State) : State :=
  feedNote r.id .withdrawn
    (updateRecord r.id (fun x => x.into .held) (s.withAtm { s.atm with feedPermit := false }))

/-- WITHDRAW_FEED (R147). -/
def execWithdrawFeed (tag : Byte) (pack : PackId) (s : State) : Answer :=
  take tag (feedingOnly tag pack withdrawRecord) s

/-! ## Zone Unit -/

/-- The STRICT command source is set or cleared (R150, R168). -/
def strictCommand (on : Bool) (s : State) : State := strictChanged (s.withZone { s.zone with strictCommand := on })

/-- STRICT_ON (R168). -/
def execStrictOn (tag : Byte) (s : State) : Answer := take tag (fun s => replyDone tag [] (strictCommand true s)) s

/-- STRICT_OFF (R168). -/
def execStrictOff (tag : Byte) (s : State) : Answer := take tag (fun s => replyDone tag [] (strictCommand false s)) s

/-- Whether some own detector output is SET, real or test. -/
def anyDetectorSet (s : State) : Bool := !(setDetectors s).isEmpty

/-- Whether a member that is heard in step stands at an ALARM level (R163). -/
def memberInAlarm (s : State) : Bool :=
  (members s).any (fun n => (s.peer n).followed && isAlarm (s.peer n).effectiveLevel)

/-- The own level falls to NORMAL on a request (R163, R164). -/
def fallToNormal (s : State) : State := changeLevel .normal false s.zone.cause .own s

/-- RESET_ZONE (R163). -/
def execResetZone (tag : Byte) (s : State) : Answer :=
  take tag (fun s =>
    if isAlarm s.zone.level = false then replyRefused tag .notInAlarm s
    else if s.zone.level = .released then replyRefused tag .released s
    else if s.zone.isolationLatch then replyRefused tag .electrical s
    else if anyDetectorSet s then replyRefused tag .active s
    else if s.zone.cause = some .peer ∧ memberInAlarm s = true then replyRefused tag .peer s
    else replyDone tag [] (fallToNormal s)) s

/-- RESTORE_ZONE (R164). -/
def execRestoreZone (tag : Byte) (s : State) : Answer :=
  take tag (fun s =>
    if s.zone.level ≠ .released then replyRefused tag .notReleased s
    else if channelOut s 9 = false then replyRefused tag .key s
    else if s.zone.isolationLatch then replyRefused tag .electrical s
    else if anyDetectorSet s then replyRefused tag .active s
    else replyDone tag [] (fallToNormal (s.withZone { s.zone with suppression := false }))) s

/-! ## Tally Unit and Station Port -/

/-- CLOSE_LOT (R180). -/
def execCloseLot (tag : Byte) (s : State) : Answer :=
  take tag (fun s =>
    if s.cfg.role ≠ .chamber then replyRefused tag .role s
    else match s.tally.openLot with
      | none => replyRefused tag .none s
      | some l => replyDone tag [b2 l.number] (closeLot .command s)) s

/-- SET_MASK (R54, R193, R194). -/
def execSetMask (tag : Byte) (kinds channels : BitVec 16) (s : State) : Answer :=
  take tag (fun s =>
    let masks (v : BitVec 16) : Sixteen Bool := Vector.ofFn (fun k : Fin 16 => natBit v.toNat (15 - k.val))
    replyDone tag []
      (s.withPort (formAttention { s.port with kindMasks := masks kinds, channelMasks := masks channels }))) s

end Sys2Proof.Machine
end

