-- ==== Sys2Proof/Machine/ReadSteps.lean ====
section
/-! DEFINITION. The meanings of the transfers of the station port that carry no good request (R186, R187), and of the
requests that read: READ EVENTS is taken without change (R192), and no read changes what it reads. -/

namespace Sys2Proof.Machine

open Sys2Proof

/-! ## Transfers -/

/-- BAD_ENVELOPE: the first test of R186 that fails decides a BAD reply, with the tag as it was clocked in. -/
def execBadEnvelope (bytes : List Byte) (s : State) : Answer :=
  let s1 := takeDue s
  let tag := bytes.getD 2 0
  match judgeEnvelope bytes with
  | .nothing => .next s1
  | .good => .next s1
  | .length => .next (replyBad tag .length s1)
  | .sum => .next (replyBad tag .sum s1)
  | .code => .next (replyBad tag .code s1)

/-- REPLY_READ: a transfer of `clocked` bytes puts the copy on SDO, and reads the pending reply where it reaches the
copy's end (R187, R192). -/
def execReplyRead (clocked : Nat) (s : State) : Answer :=
  let s1 := takeDue s
  let copy := replyCopy s1.port
  let s2 := s1.withPort { s1.port with clockedOut := clockOut clocked copy }
  match s1.port.pendingReply with
  | some r => .next (if copy.length ≤ clocked then leaveReply r s2 else s2)
  | none => .next s2

/-! ## Reads -/

/-- READ_LINK (R17). -/
def execReadLink (tag : Byte) (s : State) : Answer := take tag (fun s => replyDone tag (linkItems s) s) s

/-- READ_PEER (R40). -/
def execReadPeer (tag : Byte) (station : Byte) (s : State) : Answer :=
  take tag (fun s =>
    if stationOk station.toNat = false then replyBad tag .parameter s
    else if station.toNat = s.cfg.station then replyRefused tag .own s
    else replyDone tag (peerItems station.toNat s) s) s

/-- READ_LINE_VIEW (R40). -/
def execReadLineView (tag : Byte) (s : State) : Answer := take tag (fun s => replyDone tag (lineViewItems s) s) s

/-- READ_FILTERS (R55). -/
def execReadFilters (tag : Byte) (s : State) : Answer := take tag (fun s => replyDone tag (filterItems s) s) s

/-- READ_RECORD (R84). -/
def execReadRecord (tag : Byte) (pack : PackId) (s : State) : Answer :=
  take tag (fun s =>
    match findRecord pack s with
    | some r => replyDone tag (recordItems r) s
    | none =>
      match findReservation pack s with
      | some v => replyDone tag (reservationItems v) s
      | none => replyRefused tag .unknown s) s

/-- READ_STORE (R84). -/
def execReadStore (tag : Byte) (s : State) : Answer := take tag (fun s => replyDone tag (storeItems s) s) s

/-- READ_ENGINE (R113). -/
def execReadEngine (tag : Byte) (s : State) : Answer := take tag (fun s => replyDone tag (engineItems s) s) s

/-- READ_RESIDUAL (R127). -/
def execReadResidual (tag : Byte) (s : State) : Answer := take tag (fun s => replyDone tag (residualItems s) s) s

/-- READ_ATMOSPHERE (R148). The seconds left on a running purge timer are a free value, at most the time loaded (log
entry 7). -/
def execReadAtmosphere (tag : Byte) (s : State) : Answer :=
  take tag (fun s =>
    let left := s.atm.purgeTimer.map (fun loaded => min loaded (Config.freePurgeSeconds s.draws))
    replyDone tag (atmosphereItems left s) (s.withDraws (if s.atm.purgeTimer.isSome then s.draws + 1 else s.draws))) s

/-- READ_ZONE (R169). -/
def execReadZone (tag : Byte) (s : State) : Answer := take tag (fun s => replyDone tag (zoneItems s) s) s

/-- READ_TALLY (R183). -/
def execReadTally (tag : Byte) (s : State) : Answer := take tag (fun s => replyDone tag (tallyItems s) s) s

/-- The lot that a lot number names in the journal. -/
def findLot (n : Nat) (s : State) : Option Lot :=
  (s.tally.openLot.toList ++ s.tally.closedLots).find? (fun l => decide (l.number = n))

/-- READ_LOT (R184). -/
def execReadLot (tag : Byte) (lot : BitVec 16) (s : State) : Answer :=
  take tag (fun s =>
    if s.cfg.role ≠ .chamber then replyRefused tag .role s
    else if lot.toNat = 0 then
      match s.tally.openLot with
      | some l => replyDone tag (lotItems l) s
      | none => replyRefused tag .none s
    else match findLot lot.toNat s with
      | some l => replyDone tag (lotItems l) s
      | none => replyRefused tag .unknown s) s

/-- The reply of READ EVENTS with what its reading clears; an overrun that it makes is counted before it is returned
(R188, R192). -/
def readEvents (tag : Byte) (s : State) : State :=
  let overruns := if s.port.pendingReply.isSome then satSucc 255 s.port.overruns else s.port.overruns
  formReply
    { code := .done
      tag := tag
      data := eventItems overruns s
      returned := some { counts := s.port.counts, flags := changeFlags s, overruns := overruns } } s

/-- READ_EVENTS: answered in every phase (R192, R202). -/
def execReadEvents (tag : Byte) (s : State) : Answer := .next (readEvents tag (takeDue s))

/-- READ_CONFIG_STATUS: answered in every phase (R202). -/
def execReadConfigStatus (tag : Byte) (s : State) : Answer :=
  let s1 := takeDue s
  .next (replyDone tag (configStatusItems s1) s1)

end Sys2Proof.Machine
end

