-- ==== Sys2Proof/Machine/Dispatch.lean ====
section
/-! DEFINITION. The one arm of every command: a direct call of its meaning. -/

namespace Sys2Proof.Machine

open Sys2Proof

def exec (i : Instr) (s : State) : Host.Outcome State Fault Refusal :=
  match i with
  | .startReset => Sys2Proof.Machine.execStartReset s
  | .configurationRead answers => Sys2Proof.Machine.execConfigurationRead answers s
  | .epochWrite reads writeAcks readBacks => Sys2Proof.Machine.execEpochWrite reads writeAcks readBacks s
  | .enterRunning => Sys2Proof.Machine.execEnterRunning s
  | .quietIntervalEnd => Sys2Proof.Machine.execQuietIntervalEnd s
  | .contentionLost bit => Sys2Proof.Machine.execContentionLost bit s
  | .frameAbort bit => Sys2Proof.Machine.execFrameAbort bit s
  | .frameComplete => Sys2Proof.Machine.execFrameComplete s
  | .framingError => Sys2Proof.Machine.execFramingError s
  | .incompleteFrame => Sys2Proof.Machine.execIncompleteFrame s
  | .malformedLength length => Sys2Proof.Machine.execMalformedLength length s
  | .badFrame bytes => Sys2Proof.Machine.execBadFrame bytes s
  | .stateReceived f => Sys2Proof.Machine.execStateReceived f s
  | .joinReceived f => Sys2Proof.Machine.execJoinReceived f s
  | .alarmReceived f => Sys2Proof.Machine.execAlarmReceived f s
  | .offerReceived f => Sys2Proof.Machine.execOfferReceived f s
  | .grantReceived f => Sys2Proof.Machine.execGrantReceived f s
  | .refuseReceived f => Sys2Proof.Machine.execRefuseReceived f s
  | .takenReceived f => Sys2Proof.Machine.execTakenReceived f s
  | .cancelReceived f => Sys2Proof.Machine.execCancelReceived f s
  | .periodTimerExpiry => Sys2Proof.Machine.execPeriodTimerExpiry s
  | .startWindowClose => Sys2Proof.Machine.execStartWindowClose s
  | .refusalStreakQuiet station => Sys2Proof.Machine.execRefusalStreakQuiet station s
  | .silenceTimerExpiry station => Sys2Proof.Machine.execSilenceTimerExpiry station s
  | .sampleSetArrival burst strayBits => Sys2Proof.Machine.execSampleSetArrival burst strayBits s
  | .sampleTimerExpiry contacts => Sys2Proof.Machine.execSampleTimerExpiry contacts s
  | .rampStep => Sys2Proof.Machine.execRampStep s
  | .settleTimeout => Sys2Proof.Machine.execSettleTimeout s
  | .measurementLoss => Sys2Proof.Machine.execMeasurementLoss s
  | .unloadComplete => Sys2Proof.Machine.execUnloadComplete s
  | .restCurrentFault => Sys2Proof.Machine.execRestCurrentFault s
  | .loadStuck => Sys2Proof.Machine.execLoadStuck s
  | .contactorCheckExpiry => Sys2Proof.Machine.execContactorCheckExpiry s
  | .restTimerExpiry => Sys2Proof.Machine.execRestTimerExpiry s
  | .offerTimerExpiry pack => Sys2Proof.Machine.execOfferTimerExpiry pack s
  | .backOffExpiry pack => Sys2Proof.Machine.execBackOffExpiry pack s
  | .transitTimerExpiry pack => Sys2Proof.Machine.execTransitTimerExpiry pack s
  | .grantHoldExpiry pack => Sys2Proof.Machine.execGrantHoldExpiry pack s
  | .purgeTimerExpiry => Sys2Proof.Machine.execPurgeTimerExpiry s
  | .countdownEnd => Sys2Proof.Machine.execCountdownEnd s
  | .badEnvelope bytes => Sys2Proof.Machine.execBadEnvelope bytes s
  | .replyRead clocked => Sys2Proof.Machine.execReplyRead clocked s
  | .testFrame tag => Sys2Proof.Machine.execTestFrame tag s
  | .readLink tag => Sys2Proof.Machine.execReadLink tag s
  | .setAdmission tag mode => Sys2Proof.Machine.execSetAdmission tag mode s
  | .readPeer tag station => Sys2Proof.Machine.execReadPeer tag station s
  | .readLineView tag => Sys2Proof.Machine.execReadLineView tag s
  | .testChannel tag channel => Sys2Proof.Machine.execTestChannel tag channel s
  | .readFilters tag => Sys2Proof.Machine.execReadFilters tag s
  | .admitPack tag p => Sys2Proof.Machine.execAdmitPack tag p s
  | .forward tag pack => Sys2Proof.Machine.execForward tag pack s
  | .hold tag pack => Sys2Proof.Machine.execHold tag pack s
  | .arrived tag pack upstream => Sys2Proof.Machine.execArrived tag pack upstream s
  | .recover tag pack => Sys2Proof.Machine.execRecover tag pack s
  | .remove tag pack => Sys2Proof.Machine.execRemove tag pack s
  | .readRecord tag pack => Sys2Proof.Machine.execReadRecord tag pack s
  | .readStore tag => Sys2Proof.Machine.execReadStore tag s
  | .start tag => Sys2Proof.Machine.execStart tag s
  | .stop tag => Sys2Proof.Machine.execStop tag s
  | .readEngine tag => Sys2Proof.Machine.execReadEngine tag s
  | .readResidual tag => Sys2Proof.Machine.execReadResidual tag s
  | .purge tag => Sys2Proof.Machine.execPurge tag s
  | .feed tag => Sys2Proof.Machine.execFeed tag s
  | .consumed tag pack => Sys2Proof.Machine.execConsumed tag pack s
  | .withdrawFeed tag pack => Sys2Proof.Machine.execWithdrawFeed tag pack s
  | .readAtmosphere tag => Sys2Proof.Machine.execReadAtmosphere tag s
  | .testDetector tag detector => Sys2Proof.Machine.execTestDetector tag detector s
  | .strictOn tag => Sys2Proof.Machine.execStrictOn tag s
  | .strictOff tag => Sys2Proof.Machine.execStrictOff tag s
  | .resetZone tag => Sys2Proof.Machine.execResetZone tag s
  | .restoreZone tag => Sys2Proof.Machine.execRestoreZone tag s
  | .readZone tag => Sys2Proof.Machine.execReadZone tag s
  | .closeLot tag => Sys2Proof.Machine.execCloseLot tag s
  | .readTally tag => Sys2Proof.Machine.execReadTally tag s
  | .readLot tag lot => Sys2Proof.Machine.execReadLot tag lot s
  | .readEvents tag => Sys2Proof.Machine.execReadEvents tag s
  | .setMask tag kinds channels => Sys2Proof.Machine.execSetMask tag kinds channels s
  | .readConfigStatus tag => Sys2Proof.Machine.execReadConfigStatus tag s

end Sys2Proof.Machine
end

