-- ==== Sys2Proof/Safety.lean ====
section
/-! DEFINITION. What counts as a safe state of the part: the rules that hold between its commands, each as a property of a
state. The statements about every step are made in these terms. -/

namespace Sys2Proof.Machine

open Sys2Proof

/-- The blocks are active and no step of an expiry is due. -/
abbrev Ready (s : State) : Prop := active s = true ∧ noneDue s = true

/-- The contactor, the load step and the present step agree with the engine state, and no step exceeds 63 (R88, R92). -/
structure EngineSafe (s : State) : Prop where
  contactor : s.engine.contactor = contactorClosed s.engine.state
  loadStep : s.engine.loadStep = s.engine.present
  zeroStep : stepping s.engine.state = false → s.engine.present = 0
  presentBound : s.engine.present ≤ 63
  targetBound : s.engine.target ≤ 63

/-- The transfer permit, the sums and the allowance are those of the records, the reservations, the zone level, the link
state and the atmosphere as they stand (R70, R74). -/
structure StoreFormed (s : State) : Prop where
  permit : s.store.permit = permitHolds s
  held : s.store.heldEnergy = atChamber s.cfg.role (heldSum s.store.records)
  reserved : s.store.reservedEnergy = atChamber s.cfg.role (reservedSum s.store.reservations)
  allowance : s.store.allowance = atChamber s.cfg.role
    (effectiveLimit s - heldSum s.store.records - reservedSum s.store.reservations)

/-- The transmit state keeps its bounds, and in CLASHED it is empty (R7, R11, R12, R13). -/
structure LinkSafe (s : State) : Prop where
  queue : s.link.queue.length ≤ 8
  sequence : s.link.nextSequence < 16
  ahead : s.link.ahead ≤ 3
  aheadEmpty : s.link.stateSlot = none → s.link.ahead = 0
  cause : s.link.state = .active ↔ s.link.clashCause = .none
  clashed : s.link.state = .clashed →
    s.link.alarmSlot = none ∧ s.link.stateSlot = none ∧ s.link.joinSlot = none ∧ s.link.queue = []
      ∧ s.link.attempt = none

/-- The pack IDs of the records and reservations. -/
def packIds (s : State) : List PackId :=
  s.store.records.map (fun r => r.id) ++ s.store.reservations.map (fun v => v.packId)

/-- The store holds at most 16 entries, and no pack ID twice (R58). -/
structure StoreBounded (s : State) : Prop where
  entries : entriesHeld s ≤ 16
  distinct : (packIds s).Nodup

/-- The balance equals the held count while no lost-count marker is set (R172). -/
structure TallyBalanced (s : State) : Prop where
  balance : s.tally.marked = false → s.tally.balance = s.store.records.length

/-- The journal: an open lot has 1 to 47 packs, a closed one 1 to 48 and a close reason, at most four stand closed (R175,
R177, R178). -/
structure JournalBounded (s : State) : Prop where
  openLot : ∀ l, s.tally.openLot = some l → l.closeReason = none ∧ 1 ≤ l.packs.length ∧ l.packs.length ≤ 47
  closedLots : ∀ l, l ∈ s.tally.closedLots → l.closeReason ≠ none ∧ 1 ≤ l.packs.length ∧ l.packs.length ≤ 48
  four : s.tally.closedLots.length ≤ 4

/-- Before LISTENING and in SAFE HALT every block but the port and the Start Unit is at its start values, apart from the
admission mode taken from the configuration (R196, R198, R201). -/
structure Inactive (s : State) : Prop where
  link : s.link = {}
  peers : s.peers = { mode := s.peers.mode }
  bank : s.bank = {}
  store : s.store = {}
  engine : s.engine = {}
  residual : s.residual = none
  atm : s.atm = {}
  zone : s.zone = {}
  tally : s.tally = {}

/-- Whatever is not active is inactive at its start values. -/
def InactiveAtStart (s : State) : Prop := active s = false → Inactive s

/-- At a role other than BAY the engine stays IDLE with no bound record (R87). -/
def EngineOnlyAtBay (s : State) : Prop := s.cfg.role ≠ .bay → s.engine.state = .idle ∧ s.engine.bound = none

/-- The feed permit is asserted only while the atmosphere is INERT or WATCH, the own level is NORMAL, the link is not
CLASHED, and a FEEDING record without a mark stands (R7, R145). -/
def FeedSafe (s : State) : Prop :=
  s.atm.feedPermit = true →
    s.cfg.role = .chamber ∧ atmosphereFeeds s = true ∧ s.zone.level = .normal ∧ s.link.state = .active
      ∧ ∃ r ∈ s.store.records, r.state = .feeding ∧ marksAny r.data.marks = false

/-- Suppression is asserted exactly in RELEASED, the countdown runs exactly in COUNTDOWN, paused or not (log entry 59), and
only a station that owns the suppression output reaches either (R157, R161, R162). -/
structure SuppressionSafe (s : State) : Prop where
  released : s.zone.suppression = decide (s.zone.level = .released)
  countdown : s.zone.countdown = decide (s.zone.level = .countdown)
  owned : s.zone.level = .countdown ∨ s.zone.level = .released → s.cfg.suppressionOwned = true

/-- The valve outputs follow the atmosphere state and the supply select the supply state (R141). -/
structure ValvesFollow (s : State) : Prop where
  purge : s.atm.purgeValve = decide (s.atm.state = .purging)
  makeUp : s.atm.makeUpValve = decide (s.atm.state = .purging ∨ s.atm.state = .inert ∨ s.atm.state = .watch)
  boost : s.atm.boost = decide (s.atm.state = .watch)
  select : s.atm.supplySelect = s.atm.supply

/-- The attention output reflects the pending, unmasked kinds, and no count exceeds 255 (R191, R194). -/
structure AttentionFollows (s : State) : Prop where
  attention : s.port.attention = attentionOf s.port.counts s.port.kindMasks
  counts : ∀ n, at1 0 s.port.counts n ≤ 255

/-- Every property that a step keeps, together. -/
structure Safe (s : State) : Prop where
  engine : EngineSafe s
  bay : EngineOnlyAtBay s
  formed : StoreFormed s
  link : LinkSafe s
  bounded : StoreBounded s
  balanced : TallyBalanced s
  journal : JournalBounded s
  inactive : InactiveAtStart s
  feed : FeedSafe s
  suppression : SuppressionSafe s
  valves : ValvesFollow s
  attention : AttentionFollows s

/-! ## The terms of the statements about one command -/

/-- The parts of the state, so that a statement can name those a command may change. -/
inductive Block where
  | link | peers | bank | store | engine | residual | atm | zone | tally | port | start | cfg | uniqueId | draws
  | pending
deriving DecidableEq, Repr

/-- Two states agree in a part. -/
def sameBlock (b : Block) (s t : State) : Prop :=
  match b with
  | .link => t.link = s.link
  | .peers => t.peers = s.peers
  | .bank => t.bank = s.bank
  | .store => t.store = s.store
  | .engine => t.engine = s.engine
  | .residual => t.residual = s.residual
  | .atm => t.atm = s.atm
  | .zone => t.zone = s.zone
  | .tally => t.tally = s.tally
  | .port => t.port = s.port
  | .start => t.start = s.start
  | .cfg => t.cfg = s.cfg
  | .uniqueId => t.uniqueId = s.uniqueId
  | .draws => t.draws = s.draws
  | .pending => t.pending = s.pending

/-- Every part of the state but those listed is as before: the frame of a command. -/
def OnlyChanges (touched : List Block) (s t : State) : Prop := ∀ b, b ∉ touched → sameBlock b s t

/-- The Pack Store of a state is `u`, with the transfer permit, the sums and the allowance as the state's records,
reservations, level, link state and atmosphere give them (R70, R74). -/
def StoreIs (u : PackStore) (t : State) : Prop :=
  t.store = { u with
    permit := permitHolds t
    heldEnergy := atChamber t.cfg.role (heldSum u.records)
    reservedEnergy := atChamber t.cfg.role (reservedSum u.reservations)
    allowance := atChamber t.cfg.role
      (effectiveLimit t - heldSum u.records - reservedSum u.reservations) }

/-- The records with the one of a pack ID changed. -/
def recordsWith (id : PackId) (f : PackRecord → PackRecord) (s : State) : List PackRecord :=
  s.store.records.map (fun r => if r.id = id then f r else r)

/-- The engine as an unload begins with a purpose (R102). -/
def Engine.unloading (p : UnloadPurpose) (e : Engine) : Engine :=
  { e with
    state := .unload
    contactor := true
    rampCount := 0
    unloadCount := 0
    zeroRun := 0
    settleTimer := none
    restTimer := none
    checkTimer := none
    purpose := some p }

/-- The engine in a state with the contactor open and the load at step 0. -/
def Engine.opened (st : EngineState) (e : Engine) : Engine :=
  { e with state := st, contactor := false, present := 0, loadStep := 0 }

/-- A record whose data changed. -/
def PackRecord.withData (f : PackData → PackData) (r : PackRecord) : PackRecord := { r with data := f r.data }

/-! ## What the blocks hand on to each other -/

/-- Handoff frames placed one after the other (R7, R15). -/
def placedAll (fs : List HandoffFrame) (s : State) : State := fs.foldl (fun s f => placeHandoff f s) s

/-- A CANCEL of this station. -/
def cancelTo (s : State) (n : Nat) (id : PackId) (offer : Nat) (r : CancelReason) : HandoffFrame :=
  .cancel { head := headTo s n id offer, reason := r }

/-- Whether a record is in an exchange: OFFERED or IN TRANSIT. -/
abbrev exchanging (r : PackRecord) : Prop := r.state = .offered ∨ r.state = .inTransit

/-- The CANCEL frames of a rise to an ALARM level (R80), in the order of log entry 48. -/
def alarmCancels (s : State) : List HandoffFrame :=
  (s.store.records.filter (fun r => decide (exchanging r))).map
      (fun r => cancelTo s (r.destination.getD 0) r.id (r.offerNumber.getD 0) .abort)
    ++ s.store.reservations.map (fun v => cancelTo s v.station v.packId v.offerNumber .alarm)

/-- The CANCEL frames at the ending of every exchange with a station (R81), in the order of log entry 48. -/
def restartCancels (n : Nat) (s : State) : List HandoffFrame :=
  (s.store.reservations.filter (fun v => decide (v.station = n))).map
      (fun v => cancelTo s n v.packId v.offerNumber .peerRestart)
    ++ (s.store.records.filter (fun r => decide (exchanging r ∧ r.destination = some n))).map
      (fun r => cancelTo s n r.id (r.offerNumber.getD 0) .peerRestart)

/-- A record put into a state, its offer and transit timers stopped. -/
def PackRecord.stopped (st : RecordState) (r : PackRecord) : PackRecord :=
  { r with state := st, offerTimer := none, transitTimer := none }

/-- The engine as an order to unload with a purpose leaves it (R102, R107): an unload begins in CONNECT, RAMP, RUN and
REST, the purpose changes in UNLOAD, and nothing happens in any other state. -/
def Engine.ordered (p : UnloadPurpose) (e : Engine) : Engine :=
  if e.state ∈ [.connect, .ramp, .run, .rest] then e.unloading p
  else if e.state = .unload then { e with purpose := some (mergePurpose (e.purpose.getD .rest) p) }
  else e

/-- The engine after a recomputation of its target in CONNECT, RAMP or RUN (R93); with no bound record it stands. -/
def retargeted (s : State) : Engine :=
  match s.engine.bound.bind (fun id => findRecord id s) with
  | some r =>
    if s.engine.state ∈ [.connect, .ramp, .run] then
      { s.engine with
        iCmd := commandedCurrent s r.data
        target := targetStep s (commandedCurrent s r.data)
        settleTimer :=
          if targetStep s (commandedCurrent s r.data) ≠ s.engine.target ∧ s.engine.state ≠ .connect
          then some s.cfg.settleTimeout else s.engine.settleTimer }
    else s.engine
  | none => s.engine

/-- The feed permit dropped: an asserted one falls, and with a record FEEDING the note tells the condition lost (R145). -/
def feedDropped (c : PermitLoss) (s : State) : Atmosphere :=
  { s.atm with
    feedPermit := false
    feedNote := match s.atm.feedPermit, feedingRecord s with
      | true, some r => some { packId := r.id, outcome := .permitLost c }
      | true, none => s.atm.feedNote
      | false, _ => s.atm.feedNote }

/-- The Tally Unit with its open lot, if any, closed (R178). -/
def Tally.lotClosed (r : CloseReason) (t : Tally) : Tally :=
  match t.openLot with
  | some lot =>
    { t with openLot := none, closedLots := ({ lot with closeReason := some r } :: t.closedLots).take 4 }
  | none => t

/-- The port after the closing of an open lot, if any. -/
def lotClosedPort (s : State) : Port := if s.tally.openLot.isSome then (raise .lotClosed s).port else s.port

/-- The link with an ALARM placed (R7, R14). -/
def Link.withAlarm (f : AlarmFrame) (l : Link) : Link :=
  match l.state with
  | .clashed => l
  | .active =>
    { l with
      alarmSlot := some f
      attempt := l.attempt.map (fun a => match a.frame with | .alarm _ => { a with replaced := true } | _ => a) }

/-- The link with a STATE placed (R7, R13): it takes the next sequence number; one that was not being attempted counts as
overrun. -/
def Link.withState (f : StateFrame) (l : Link) : Link :=
  match l.state with
  | .clashed => l
  | .active =>
    let attempting := l.stateSlot.isSome && l.attemptingState
    { l with
      stateSlot := some { f with sequence := l.nextSequence }
      nextSequence := (l.nextSequence + 1) % 16
      attempt := if attempting then l.attempt.map (fun a => { a with replaced := true }) else l.attempt
      stateOverruns :=
        if l.stateSlot.isSome && !attempting then min (l.stateOverruns + 1) 65535 else l.stateOverruns }

/-- The link with a JOIN placed (R7, R14). -/
def Link.withJoin (f : JoinFrame) (l : Link) : Link :=
  match l.state with
  | .clashed => l
  | .active =>
    { l with
      joinSlot := some f
      attempt := l.attempt.map (fun a => match a.frame with | .join _ => { a with replaced := true } | _ => a) }

/-- How often a transaction is made, at most three tries up to the first that is acknowledged (R198). -/
def triesOf (acknowledged : Nat → Bool) : Nat := if acknowledged 0 then 1 else if acknowledged 1 then 2 else 3

/-- The transactions of one step of the start: each try sends the same bytes to the bus address hexadecimal 50 and wants
the same number of bytes (R197). -/
def lineTries (sent : List Byte) (read : Nat) (acknowledged : Nat → Bool) : List LineTransaction :=
  List.replicate (triesOf acknowledged) { address := 0x50, sent := sent, read := read }

/-- An entry after outcomes recorded one after the other with a cause: each joins the window at its newest end; four HIT in
a row make IN STEP, three MISS in the window OUT OF STEP (R27, R28). -/
def PeerEntry.outcomes (c : ArrivalCause) : List Arrival → PeerEntry → PeerEntry
  | [], e => e
  | o :: os, e =>
    let w := (o :: e.window).take 8
    PeerEntry.outcomes c os { e with
      window := w
      newestCause := some c
      step := if o = .hit ∧ w.take 4 = [.hit, .hit, .hit, .hit] then .inStep
        else if o = .miss ∧ 3 ≤ w.count .miss then .outOfStep else e.step }

/-- An entry with one more discarded frame. -/
def PeerEntry.discarded (e : PeerEntry) : PeerEntry := { e with discards := min (e.discards + 1) 65535 }

/-- Of the Peer Table one entry alone changed, and nothing else of the state. -/
def EntryBecomes (n : Nat) (e : PeerEntry) (s t : State) : Prop :=
  t.peer n = e ∧ (∀ m, m ≠ n → t.peer m = s.peer m) ∧ t.peers = { s.peers with entries := t.peers.entries }
    ∧ OnlyChanges [.peers] s t

/-! ## A change of the own level -/

/-- The ALARM frame of a level (R165), with HEAT where no cause stands (log entry 31). -/
def alarmFrameOf (s : State) (l : ZoneLevel) (flag : Bool) (cause : Option ZoneCause) : AlarmFrame :=
  { station := s.cfg.station, zone := s.cfg.zone, level := l, testFlag := flag, cause := cause.getD .heat }

/-- A rise from NORMAL or PREALARM to an ALARM level. -/
abbrev risesToAlarm (old new : ZoneLevel) : Prop := levelRank old < 2 ∧ 2 ≤ levelRank new

/-- What a change of the own level does (R80, R107, R145, R161 to R163, R165, R166, R179). Its ALARM frame is placed, with
HEAT where no cause stands (log entry 31). A rise to an ALARM level orders the engine to unload, makes records OFFERED
READY and records IN TRANSIT HALTED, removes the reservations, cancels each exchange (in the order of log entry 48) and closes
the open lot; a change that stays below recomputes the target; a level other than NORMAL drops the feed permit. -/
structure LevelChanged (l : ZoneLevel) (flag : Bool) (cause : Option ZoneCause) (o : Origin) (s t : State) : Prop where
  zone : t.zone = { s.zone with
    level := l
    testFlag := flag
    cause := cause
    releaseCount :=
      if l = .countdown then 100 * s.cfg.releaseDelay else if l = .released then s.zone.releaseCount else 0
    countdown := decide (l = .countdown)
    endDue := false
    suppression := s.zone.suppression || decide (l = .released)
    note := some { level := l, testFlag := flag, cause := cause, origin := o } }
  link : t.link = (placedAll (if risesToAlarm s.zone.level l then alarmCancels s else [])
    { s with link := s.link.withAlarm (alarmFrameOf s l flag cause) }).link
  engine : t.engine =
    if risesToAlarm s.zone.level l then s.engine.ordered (.handBack .alarm)
    else if 2 ≤ levelRank l then s.engine
    else retargeted { s with zone := t.zone }
  store : StoreIs
    (if risesToAlarm s.zone.level l then
      { s.store with
        records := s.store.records.map (fun r =>
          if r.state = .offered then r.stopped .ready else if r.state = .inTransit then r.stopped .halted else r)
        reservations := [] }
     else s.store) t
  atm : t.atm = if l = .normal then s.atm else feedDropped .zone s
  tally : t.tally = if risesToAlarm s.zone.level l then s.tally.lotClosed .alarm else s.tally
  port : t.port =
    (raise .zoneChange { s with port := if risesToAlarm s.zone.level l then lotClosedPort s else s.port }).port
  others : OnlyChanges [.zone, .link, .engine, .store, .atm, .tally, .port] s t

/-! ## The rising evaluation -/

/-- A real own detector SET: without the TEST mark (R149). -/
def RealSet (s : State) (n : Nat) : Prop :=
  1 ≤ n ∧ n ≤ 4 ∧ channelOut s n = true ∧ (channelAt s n).mark = false

/-- An own detector SET, real or test. -/
def AnySet (s : State) (n : Nat) : Prop := 1 ≤ n ∧ n ≤ 4 ∧ channelOut s n = true

/-- The confirming condition (R152). -/
def Confirms (s : State) : Prop :=
  (∃ a b, RealSet s a ∧ RealSet s b ∧ detectorKind s a ≠ detectorKind s b)
    ∨ (∃ a, RealSet s a) ∧ ∃ n, stationOk n = true ∧ isMember s n = true ∧ 1 ≤ levelRank (s.peer n).effectiveLevel

/-- The level that the standing inputs demand (R153). -/
def Demands (s : State) : ZoneLevel → Prop
  | .alarmConfirmed => Confirms s
  | .alarmUnconfirmed => ¬Confirms s ∧ (∃ a, RealSet s a) ∧ s.zone.strictInForce = true
  | .prealarm => ¬Confirms s ∧ ¬((∃ a, RealSet s a) ∧ s.zone.strictInForce = true) ∧ ∃ a, AnySet s a
  | .normal => ∀ a, ¬AnySet s a
  | .countdown => False
  | .released => False

/-- The cause of a rise by the own detectors (R158): the kind of the lowest-numbered real detector SET, or with none real of
the lowest-numbered test detector SET; the kind NONE, which never presents a SET output, gives HEAT (log entry 31). -/
def OwnCause (s : State) (c : ZoneCause) : Prop :=
  ∃ a, c = kindCause (detectorKind s a)
    ∧ ((RealSet s a ∧ ∀ b, b < a → ¬RealSet s b)
      ∨ (∀ b, ¬RealSet s b) ∧ AnySet s a ∧ ∀ b, b < a → ¬AnySet s b)

/-- The level of a rise to ALARM CONFIRMED (R157). -/
def confirmedLevel (s : State) : ZoneLevel := if s.cfg.suppressionOwned then .countdown else .alarmConfirmed

/-- What the rising evaluation does (R153, R154, R157, R158). The own level rises to the demanded level, under the test flag
where no real detector makes a PREALARM; a real detector ends the test flag of a standing PREALARM; else nothing. -/
structure RisingEvaluated (s t : State) : Prop where
  rises : ∀ d, Demands s d → levelRank s.zone.level < levelRank d →
    ∃ c flag, OwnCause s c ∧ (flag = true ↔ d = .prealarm ∧ ∀ a, ¬RealSet s a)
      ∧ LevelChanged (if d = .alarmConfirmed then confirmedLevel s else d) flag (some c) .own s t
  turnsReal : ∀ d, Demands s d → levelRank d ≤ levelRank s.zone.level → s.zone.level = .prealarm →
    s.zone.testFlag = true → (∃ a, RealSet s a) →
    t = raise .zoneChange { s with
      zone := { s.zone with
        testFlag := false
        note := some { level := .prealarm, testFlag := false, cause := s.zone.cause, origin := .own } }
      link := s.link.withAlarm (alarmFrameOf s .prealarm false s.zone.cause) }
  stays : ∀ d, Demands s d → levelRank d ≤ levelRank s.zone.level →
    ¬(s.zone.level = .prealarm ∧ s.zone.testFlag = true ∧ ∃ a, RealSet s a) → t = s

/-- The own strict request and strict in force as their sources give them (R150, R151). -/
structure StrictFormed (s t : State) : Prop where
  own : t.zone.ownStrict = true ↔
    s.zone.strictCommand = true ∨ 0 < s.zone.grade2 ∨ 0 < s.zone.hot ∨ s.bank.healthy < 2
  inForce : t.zone.strictInForce = true ↔
    t.zone.ownStrict = true ∨ ∃ n, stationOk n = true ∧ isMember s n = true ∧ (s.peer n).effectiveStrict = true
  others : t = { s with
    zone := { s.zone with ownStrict := t.zone.ownStrict, strictInForce := t.zone.strictInForce } }

/-- A change of a source of the own strict request: a change of strict in force makes the rising evaluation (R151, R153). -/
def StrictTaken (s t : State) : Prop :=
  ∃ u, StrictFormed s u
    ∧ (u.zone.strictInForce = s.zone.strictInForce → t = u)
    ∧ (u.zone.strictInForce ≠ s.zone.strictInForce → RisingEvaluated u t)

/-! ## What a peer's entry hands over -/

/-- The rise of a member from one level to another (R155). -/
structure MemberRises (old new : ZoneLevel) (o : Origin) (s t : State) : Prop where
  unconfirmed : levelRank old < levelRank new → new = .alarmUnconfirmed → levelRank s.zone.level < 2 →
    LevelChanged .alarmUnconfirmed false (some .peer) o s t
  confirmed : levelRank old < levelRank new → 3 ≤ levelRank new → levelRank s.zone.level < 3 →
    LevelChanged (confirmedLevel s) false (some .peer) o s t
  nothing : ¬(levelRank old < levelRank new ∧ (new = .alarmUnconfirmed ∧ levelRank s.zone.level < 2
      ∨ 3 ≤ levelRank new ∧ levelRank s.zone.level < 3)) → t = s

/-- A station's effective values and membership handed to the Zone Unit (R34, R151, R153, R155): the taken level, the
member's rise, strict in force, the rising evaluation. -/
def PeerHandedOver (n : Nat) (s t : State) : Prop :=
  ∃ (l : ZoneLevel) (u v : State),
    l = (if isMember s n = true then (s.peer n).effectiveLevel else .normal)
    ∧ MemberRises (at1 .normal s.zone.taken n) l (.peer n none)
        { s with zone := { s.zone with taken := set1 s.zone.taken n l } } u
    ∧ StrictFormed u v ∧ RisingEvaluated v t

/-- The peer change note replaced and PEER CHANGE raised (R39). -/
def peerNoted (r : PeerNoteReason) (n : Nat) (s : State) : State :=
  raise .peerChange { s with peers := { s.peers with note := some { reason := r, station := n } } }

/-- Every exchange with a station ended (R81): reservations from it leave, records OFFERED to it become READY and records IN
TRANSIT to it ADRIFT, ADRIFT is raised for each of these, and a CANCEL PEER RESTART is placed for each exchange (in the order
of log entry 48). -/
structure ExchangesEnded (n : Nat) (s t : State) : Prop where
  store : StoreIs { s.store with
    records := s.store.records.map (fun r =>
      if r.destination = some n then
        (if r.state = .offered then r.stopped .ready else if r.state = .inTransit then r.stopped .adrift else r)
      else r)
    reservations := s.store.reservations.filter (fun v => decide (v.station ≠ n)) } t
  link : t.link = (placedAll (restartCancels n s) s).link
  port : t.port = ((s.store.records.filter (fun r => decide (r.state = .inTransit ∧ r.destination = some n))).foldl
    (fun s _ => raise .adrift s) s).port
  others : OnlyChanges [.store, .link, .port] s t

/-- An entry with its step, its window and its published values as at the start, its silence timer stopped and its heard
flag clear; the recorded values, the flag and the counts stand. -/
def PeerEntry.unheard (a : Admission) (e : PeerEntry) : PeerEntry :=
  { e with
    admission := a, step := .seeking, window := [], newestCause := none, lastSequence := none, published := none
    silenceTimer := none, heard := false }

/-- A restart of a peer (R30): the exchanges ended, then the handover (log entry 51). -/
def PeerRestarted (n epoch : Nat) (s t : State) : Prop :=
  ∃ u, ExchangesEnded n
      (s.setPeer n { (s.peer n).unheard .unknown with recordedEpoch := some epoch }) u
    ∧ PeerHandedOver n (peerNoted .restart n u) t

/-- The examination of one entry against the allow list (R25): the exchanges ended, then the handover (log entry 51). -/
structure ListExamined (n : Nat) (s t : State) : Prop where
  refused : (s.peer n).admission = .admitted → (∀ id ∈ s.cfg.allowList, (s.peer n).recordedId ≠ some id) →
    ∃ u, ExchangesEnded n (s.setPeer n ((s.peer n).unheard (.refused .notListed))) u
      ∧ PeerHandedOver n (peerNoted (.refused .notListed) n u) t
  kept : ¬((s.peer n).admission = .admitted ∧ ∀ id ∈ s.cfg.allowList, (s.peer n).recordedId ≠ some id) → t = s

/-- The examination of entries one after the other. -/
def AllExamined : List Nat → State → State → Prop
  | [], s, t => t = s
  | n :: ns, s, t => ∃ u, ListExamined n s u ∧ AllExamined ns u t

/-- The entry that a JOIN finds not ADMITTED, once judged: admitted, or refused with a reason (R22). -/
def judgedEntry (f : JoinFrame) (e : PeerEntry) : Option AdmissionRefusal → PeerEntry
  | none =>
    { e.unheard .admitted with
      recordedId := some (e.recordedId.getD f.uniqueId)
      recordedRole := some f.role
      recordedZone := some f.zone
      recordedPeriod := some f.periodCode
      recordedEpoch := some f.epoch }
  | some r =>
    { e with
      admission := .refused r
      recordedEpoch := some f.epoch
      heard := true
      silenceTimer := some 3
      clashFlag := e.clashFlag || decide (r = .clash) }

/-- The judgement of a JOIN by R22: the reason of the first test that fails, or none. -/
structure Judgement (f : JoinFrame) (s : State) (j : Option AdmissionRefusal) : Prop where
  period : f.periodCode ≠ s.cfg.periodCode → j = some .periodMismatch
  clash : f.periodCode = s.cfg.periodCode → (∃ id, (s.peer f.station).recordedId = some id ∧ id ≠ f.uniqueId) →
    j = some .clash
  listed : f.periodCode = s.cfg.periodCode → (∀ id, (s.peer f.station).recordedId = some id → id = f.uniqueId) →
    s.peers.mode = .listed ∨ s.peers.mode = .closed ∧ s.peers.windowOpen = true →
    (f.uniqueId ∈ s.cfg.allowList → j = none) ∧ (f.uniqueId ∉ s.cfg.allowList → j = some .notListed)
  closed : f.periodCode = s.cfg.periodCode → (∀ id, (s.peer f.station).recordedId = some id → id = f.uniqueId) →
    s.peers.mode = .closed → s.peers.windowOpen = false → j = some .closed
  opened : f.periodCode = s.cfg.periodCode → (∀ id, (s.peer f.station).recordedId = some id → id = f.uniqueId) →
    s.peers.mode = .opened → j = none

/-- A JOIN judged and taken for an entry that is not ADMITTED (R22, R34, R39). -/
def JoinTaken (f : JoinFrame) (s t : State) : Prop :=
  ∃ j, Judgement f s j
    ∧ PeerHandedOver f.station
        (peerNoted (match j with | none => .admitted | some r => .refused r) f.station
          (s.setPeer f.station (judgedEntry f (s.peer f.station) j))) t

/-- The finding of the own number in the unheard list of a STATE (R37). -/
structure UnheardExamined (f : StateFrame) (s t : State) : Prop where
  absent : (∀ x ∈ f.unheard, x.station ≠ s.cfg.station) → t = s
  unadmitted : { reason := .unadmitted, station := s.cfg.station } ∈ f.unheard →
    t = if s.start.phase = .running ∧ s.peers.joinLimit = false then
        { s with link := s.link.withJoin (ownJoin s), peers := { s.peers with joinLimit := true } }
      else s
  notHeard : ∀ x ∈ f.unheard, x.station = s.cfg.station → x.reason = .silent ∨ x.reason = .skipping →
    t = if s.peers.notHeardLimit = false then
        raise .notHeard { s with peers := { s.peers with notHeardLimit := true } }
      else s
  clash : { reason := .clash, station := s.cfg.station } ∈ f.unheard →
    t = if s.peers.clashListedLimit = false then
        peerNoted .clashListed f.station { s with peers := { s.peers with clashListedLimit := true } }
      else s

/-! ## Offers -/

/-- A record is offered at a period timer expiry, and to whom (R63, R64). -/
structure Offers (s : State) (r : PackRecord) (n : Nat) : Prop where
  oldest : s.store.records.find? (fun r => decide (r.state = .ready)) = some r
  alone : ∀ x ∈ s.store.records, ¬exchanging x
  level : s.zone.level = .normal
  link : s.link.state = .active
  backOff : r.backOff = none
  destination : some n =
    (if marksAny r.data.marks = true then s.cfg.quarantineDestination
     else if channelOut s 16 = true then s.cfg.alternateDestination
     else s.cfg.defaultDestination)
  available : (s.peer n).admission = .admitted ∧ (s.peer n).step = .inStep ∧ 1 ≤ (s.peer n).effectiveFree

/-- The examination for an offer (R63 to R65): the first send of the offer, or nothing. -/
structure OfferExamined (s t : State) : Prop where
  sent : ∀ r n, Offers s r n →
    StoreIs { s.store with
      nextOffer := (s.store.nextOffer + 1) % 256
      records := recordsWith r.id (fun _ => { r with
        state := .offered, offerNumber := some s.store.nextOffer, destination := some n, offerTimer := some 4
        sendCount := 1 }) s } t
    ∧ t.link = (placeHandoff (.offer { head := headTo s n r.id s.store.nextOffer, pack := r.data }) s).link
    ∧ OnlyChanges [.store, .link] s t
  none : (∀ r n, ¬Offers s r n) → t = s

/-! ## What a CANCEL finds -/

/-- A CANCEL finds what its reason acts on (R79): a matching reservation for ABORT and PEER RESTART, a matching record OFFERED
or IN TRANSIT for ALARM, LAPSED and PEER RESTART, and for DISPUTED a record under the pack ID. -/
abbrev CancelFinds (h : HandoffHead) (c : CancelReason) (s : State) : Prop :=
  (c = .abort ∨ c = .peerRestart) ∧ (∃ v ∈ s.store.reservations,
      v.station = h.station ∧ v.packId = h.packId ∧ v.offerNumber = h.offerNumber)
    ∨ (c = .alarm ∨ c = .lapsed ∨ c = .peerRestart) ∧ (∃ r ∈ s.store.records,
      r.id = h.packId ∧ r.offerNumber = some h.offerNumber ∧ r.destination = some h.station
        ∧ (r.state = .offered ∨ r.state = .inTransit))
    ∨ c = .disputed ∧ ∃ r ∈ s.store.records, r.id = h.packId

/-! ## The link CLASHED -/

/-- Entry into CLASHED from ACTIVE (R7): the slots and the queue empty, the sequence number kept, both permits deasserted, the
engine ordered to unload, PEER CHANGE raised with LINK CLASHED. -/
structure ClashEntered (cause : ClashCause) (s t : State) : Prop where
  link : t.link = { s.link with
    state := .clashed, clashCause := cause, alarmSlot := none, stateSlot := none, joinSlot := none, queue := []
    ahead := 0, attempt := none }
  store : StoreIs s.store t
  atm : t.atm = feedDropped .clashed s
  engine : t.engine = s.engine.ordered (.handBack .clashed)
  peers : t.peers = { s.peers with note := some { reason := .linkClashed, station := s.cfg.station } }
  port : t.port = (raise .peerChange s).port
  others : OnlyChanges [.link, .store, .atm, .engine, .peers, .port] s t

/-- The frame that a command receives, where it receives one that passes its check. -/
def receivedFrame : Instr → Option Frame
  | .stateReceived f => some (.state f)
  | .joinReceived f => some (.join f)
  | .alarmReceived f => some (.alarm f)
  | .offerReceived f => some (.handoff (.offer f))
  | .grantReceived f => some (.handoff (.grant f))
  | .refuseReceived f => some (.handoff (.refuse f))
  | .takenReceived f => some (.handoff (.taken f))
  | .cancelReceived f => some (.handoff (.cancel f))
  | _ => none

/-- The station that sent a frame. -/
def frameSender : Frame → Nat
  | .alarm f => f.station
  | .handoff f => (handoffHead f).station
  | .state f => f.station
  | .join f => f.station

/-! ## The Atmosphere Unit at a handover -/

/-- A change of the atmosphere state (R141, R142, R145, R179, R181): the outputs and the note, the feed permit in a state
that does not feed, the WATCH episode or the closing of the open lot, ATMOSPHERE CHANGE. -/
structure AtmChanged (st : AtmState) (c : AtmNoteCause) (s t : State) : Prop where
  atm : t.atm = { (if st = .inert ∨ st = .watch then s.atm else feedDropped .atmosphere s) with
    state := st
    purgeValve := decide (st = .purging)
    makeUpValve := decide (st = .purging ∨ st = .inert ∨ st = .watch)
    boost := decide (st = .watch)
    note := some { state := st, cause := c } }
  store : StoreIs s.store t
  tally : t.tally =
    if st = .watch then { s.tally with openLot := s.tally.openLot.map (fun lot =>
        { lot with watchEpisodes := min (lot.watchEpisodes + 1) 65535 }) }
    else if st = .trip then s.tally.lotClosed .atmosphere
    else s.tally
  port : t.port = (raise .atmosphereChange { s with port := if st = .trip then lotClosedPort s else s.port }).port
  others : OnlyChanges [.atm, .store, .tally, .port] s t

/-- Entry into TRIP (R135): the trip cause, the purge timer stopped, and the change of state. -/
def Tripped (c : TripCause) (s t : State) : Prop :=
  AtmChanged .trip (.trip c) { s with atm := { s.atm with tripCause := c, purgeTimer := none } } t

/-- The supply state and the both-low latch at a handover (R139, R140). -/
structure SupplyTaken (s t : State) : Prop where
  bothLow : channelOut s 14 = true → channelOut s 15 = true →
    t = if s.atm.bothLow = true then s
      else raise .supplyChange { s with atm := { s.atm with bothLow := true, supplyNote := some .bothLow } }
  toReserve : s.atm.supply = .primary → channelOut s 14 = true → channelOut s 15 = false →
    t = raise .supplyChange { s with
      atm := { s.atm with
        bothLow := false, supply := .reserve, supplySelect := .reserve, supplyNote := some .toReserve } }
  toPrimary : s.atm.supply = .reserve → channelOut s 14 = false → s.cfg.revert = true ∨ channelOut s 15 = true →
    t = raise .supplyChange { s with
      atm := { s.atm with
        bothLow := false, supply := .primary, supplySelect := .primary, supplyNote := some .toPrimary } }
  stays : ¬(channelOut s 14 = true ∧ channelOut s 15 = true) →
    ¬(s.atm.supply = .primary ∧ channelOut s 14 = true ∧ channelOut s 15 = false) →
    ¬(s.atm.supply = .reserve ∧ channelOut s 14 = false ∧ (s.cfg.revert = true ∨ channelOut s 15 = true)) →
    t = { s with atm := { s.atm with bothLow := false } }

/-- The tests of PURGING at a handover (R135, R136). -/
structure PurgeTested (s t : State) : Prop where
  supplyLost : s.atm.state = .purging → channelOut s 14 = true → channelOut s 15 = true → Tripped .supplyLost s t
  done : s.atm.state = .purging → channelOut s 14 = false ∨ channelOut s 15 = false → channelOut s 10 = true →
    s.atm.healthyA = true ∨ s.atm.healthyB = true →
    AtmChanged .inert .purgeDone { s with atm := { s.atm with purgeTimer := none } } t
  stays : s.atm.state ≠ .purging
      ∨ (channelOut s 14 = false ∨ channelOut s 15 = false)
        ∧ (channelOut s 10 = false ∨ s.atm.healthyA = false ∧ s.atm.healthyB = false) → t = s

/-- The first cause of R135 that holds. -/
def TripsFor (s : State) (c : TripCause) : Prop :=
  channelOut s 12 = true ∧ c = .o2High
    ∨ channelOut s 12 = false ∧ s.atm.healthyA = false ∧ s.atm.healthyB = false ∧ c = .sensorLoss
    ∨ channelOut s 12 = false ∧ (s.atm.healthyA = true ∨ s.atm.healthyB = true)
      ∧ channelOut s 14 = true ∧ channelOut s 15 = true ∧ c = .supplyLost

/-- The first cause of R134 that holds. -/
def WatchesFor (s : State) (c : AtmNoteCause) : Prop :=
  channelOut s 11 = true ∧ c = .o2Watch
    ∨ channelOut s 11 = false ∧ s.atm.healthyA ≠ s.atm.healthyB ∧ c = .sensor
    ∨ channelOut s 11 = false ∧ s.atm.healthyA = s.atm.healthyB ∧ channelOut s 13 = true ∧ c = .disagree

/-- The tests of INERT and WATCH at a handover (R134, R135). -/
structure InertTested (s t : State) : Prop where
  trips : s.atm.state = .inert ∨ s.atm.state = .watch → ∀ c, TripsFor s c → Tripped c s t
  watches : s.atm.state = .inert → (∀ c, ¬TripsFor s c) → ∀ c, WatchesFor s c → AtmChanged .watch c s t
  clears : s.atm.state = .watch → (∀ c, ¬TripsFor s c) → (∀ c, ¬WatchesFor s c) → AtmChanged .inert .cleared s t
  stays : (s.atm.state ≠ .inert ∧ s.atm.state ≠ .watch)
      ∨ (∀ c, ¬TripsFor s c) ∧ (s.atm.state = .inert ∧ (∀ c, ¬WatchesFor s c)
        ∨ s.atm.state = .watch ∧ ∃ c, WatchesFor s c) → t = s

/-- The Atmosphere Unit at a handover (R137, R138): at a CHAMBER the door, the supply, and the tests of the states. -/
structure AtmosphereHandedOver (s t : State) : Prop where
  elsewhere : s.cfg.role ≠ .chamber → t = s
  doorOpen : s.cfg.role = .chamber → channelOut s 7 = false → ∃ u, SupplyTaken u t
    ∧ (s.atm.state = .opened → u = s)
    ∧ (s.atm.state ≠ .opened → AtmChanged .opened (if s.atm.state = .trip then .doorOpened else .doorBreach)
        { s with atm := { s.atm with attempts := 0, purgeTimer := none } } u)
  doorClosed : s.cfg.role = .chamber → channelOut s 7 = true →
    ∃ u v, SupplyTaken s u ∧ PurgeTested u v ∧ InertTested v t

/-! ## The Zone Unit at a handover -/

/-- The countdown at a handover that found the level COUNTDOWN (R161): ABORT pauses it, else the count falls, and at 0 the
countdown has ended. A paused countdown still runs (log entry 59). -/
def countedDown (s : State) : Zone :=
  if s.zone.level = .countdown ∧ channelOut s 8 = false then
    { s.zone with releaseCount := s.zone.releaseCount - 1, endDue := decide (s.zone.releaseCount ≤ 1) }
  else s.zone

/-- The Zone Unit at a filter handover (R150, R151, R153, R160, R161): strict mode, the countdown, the rising evaluation,
and the fall of a PREALARM that no detector holds. -/
def ZoneHandedOver (s t : State) : Prop :=
  ∃ u v, StrictFormed { s with zone := countedDown s } u ∧ RisingEvaluated u v
    ∧ (v.zone.level = .prealarm → (∀ a, ¬AnySet v a) → LevelChanged .normal false v.zone.cause .own v t)
    ∧ (v.zone.level ≠ .prealarm ∨ (∃ a, AnySet v a) → t = v)

/-- The Zone Unit told of the records of the store (R150, R151): its counts of grade 2 and of HOT, and what follows. -/
def RecordsTold (s t : State) : Prop :=
  StrictTaken { s with zone := { s.zone with
    grade2 := s.store.records.countP (fun r => decide (r.data.grade = 2))
    hot := s.store.records.countP (fun r => r.data.marks.hot) } } t

/-! ## The inputs and the channels at a sample timer expiry -/

/-- The inputs of a sample timer expiry (R42, R94, R129, R130, R181): the engine's timers and counts, the sample set and the
contacts, and at a CHAMBER the sensors, the effective O2 and the peak of the open lot. -/
structure InputsTaken (contacts : Contacts) (s t : State) : Prop where
  engine : t.engine = { s.engine with
    settleTimer := s.engine.settleTimer.map (· - 1)
    restTimer := s.engine.restTimer.map (· - 1)
    checkTimer := s.engine.checkTimer.map (· - 1)
    rampCount := if s.engine.state ∈ [.ramp, .run, .unload] then s.engine.rampCount + 1 else s.engine.rampCount
    unloadCount := if s.engine.state = .unload then s.engine.unloadCount + 1 else s.engine.unloadCount }
  fresh : ∀ x, s.bank.arrived = some x →
    t.bank = { s.bank with contacts := contacts, arrived := none, current := some x, missing := 0 }
  reused : s.bank.arrived = none →
    t.bank = { s.bank with
      contacts := contacts
      missing := min (s.bank.missing + 1) 255
      current := if 3 ≤ s.bank.missing then some {} else s.bank.current }
  elsewhere : s.cfg.role ≠ .chamber → t.atm = s.atm ∧ t.tally = s.tally
  sensors : s.cfg.role = .chamber → ∀ a b,
    a = t.bank.current.bind (fun x => x.o2A) → b = t.bank.current.bind (fun x => x.o2B) →
    t.atm = { s.atm with
      healthyA := t.atm.healthyA
      healthyB := t.atm.healthyB
      readingA := if a.isSome then a else s.atm.readingA
      readingB := if b.isSome then b else s.atm.readingB
      effective := t.atm.effective }
    ∧ (t.atm.healthyA = true ↔ ∃ v, a = some v ∧ v ≤ 2500) ∧ (t.atm.healthyB = true ↔ ∃ v, b = some v ∧ v ≤ 2500)
    ∧ (t.atm.healthyA = true → t.atm.healthyB = true → ∀ v w, a = some v → b = some w →
        t.atm.effective = some (max v w))
    ∧ (t.atm.healthyA = true → t.atm.healthyB = false → t.atm.effective = a)
    ∧ (t.atm.healthyA = false → t.atm.healthyB = true → t.atm.effective = b)
    ∧ (t.atm.healthyA = false → t.atm.healthyB = false → t.atm.effective = none)
  peak : s.cfg.role = .chamber →
    t.tally = { s.tally with openLot := s.tally.openLot.map (fun lot =>
      { lot with peak := match t.atm.effective, lot.peak with
          | some o2, some p => some (max o2 p)
          | some o2, none => some o2
          | none, p => p }) }
  others : OnlyChanges [.engine, .bank, .atm, .tally] s t

/-- The source of a channel (R43 to R47): `none` where the channel is not in use at the role or its source is faulted. -/
structure SourceIs (s : State) (n : Nat) (source : Option Bool) : Prop where
  unused : channelUsed s.cfg.role n = false → source = none
  analog : ∀ k ∈ [1, 2, 3, 4], n = k → detectorKind s k = .heat ∨ detectorKind s k = .gas →
    source = (s.bank.current.bind (fun x => [x.an1, x.an2, x.an3, x.an4].getD (k - 1) none)).map
      (fun v => decide (at1 0 s.cfg.thresholds k ≤ v))
  contact : ∀ k ∈ [1, 2, 3, 4], n = k → detectorKind s k = .spark ∨ detectorKind s k = .flame →
    source = [s.bank.contacts.digital1, s.bank.contacts.digital2, s.bank.contacts.digital3,
      s.bank.contacts.digital4][k - 1]?
  absent : ∀ k ∈ [1, 2, 3, 4], n = k → detectorKind s k = .absent → source = none
  packHot : n = 5 → s.cfg.role = .bay →
    source = (s.bank.current.bind (fun x => x.t)).map (fun v => decide (s.cfg.derateTemp ≤ v))
  packStop : n = 6 → s.cfg.role = .bay →
    source = (s.bank.current.bind (fun x => x.t)).map (fun v => decide (s.cfg.stopTemp ≤ v))
  door : n = 7 → s.cfg.role = .chamber → source = some s.bank.contacts.door
  abort : n = 8 → source = some s.bank.contacts.abort
  key : n = 9 → source = some s.bank.contacts.key
  o2Good : n = 10 → s.cfg.role = .chamber → source = s.atm.effective.map (fun x => decide (x ≤ s.cfg.o2Good))
  o2Watch : n = 11 → s.cfg.role = .chamber → source = s.atm.effective.map (fun x => decide (s.cfg.o2Watch < x))
  o2Trip : n = 12 → s.cfg.role = .chamber → source = s.atm.effective.map (fun x => decide (s.cfg.o2Trip < x))
  disagree : n = 13 → s.cfg.role = .chamber → ∀ a b, s.atm.healthyA = true → s.atm.healthyB = true →
    s.bank.current.bind (fun x => x.o2A) = some a → s.bank.current.bind (fun x => x.o2B) = some b →
    source = some (decide (s.cfg.disagreeLimit < max a b - min a b))
  unjudged : n = 13 → s.cfg.role = .chamber → s.atm.healthyA = false ∨ s.atm.healthyB = false → source = none
  supplyP : n = 14 → s.cfg.role = .chamber → source = some s.bank.contacts.supplyP
  supplyR : n = 15 → s.cfg.role = .chamber → source = some s.bank.contacts.supplyR
  divert : n = 16 → s.cfg.role ≠ .chamber → ∀ e, e = s.peer (s.cfg.defaultDestination.getD 0) →
    source = some (match s.cfg.divertSource with
      | .alwaysFalse => false
      | .alwaysTrue => true
      | .digital1 => s.bank.contacts.digital1
      | .digital2 => s.bank.contacts.digital2
      | .digital3 => s.bank.contacts.digital3
      | .digital4 => s.bank.contacts.digital4
      | .destinationSilent => decide ¬(e.admission = .admitted ∧ e.step = .inStep)
      | .destinationRefusing => decide (3 ≤ e.streak))

/-- One evaluation of a channel (R47 to R50, R53, R54) from its source: the input is the source, inverted where configured, or
the force; the TEST mark stands while a forced output has not been met by a real input; the change flag is set where the
output turns or the mark ends. -/
structure ChannelEvaluated (c : ChannelSettings) (source : Option Bool) (x y : Channel) : Prop where
  unforced : y.unforced = (match source with | some b => b != c.invert | none => false)
  input : y.input = (x.force || y.unforced)
  phase : y.phase = nextPhase c y.input x.phase
  force : y.force = true ↔ x.force = true ∧ ¬(x.output = false ∧ y.output = true)
  mark : y.mark = true ↔ y.output = true ∧ y.unforced = false
    ∧ (x.output = true ∧ x.mark = true ∨ x.output = false ∧ x.force = true)
  flag : y.flag = true ↔ x.flag = true ∨ x.output ≠ y.output
    ∨ x.output = true ∧ y.output = true ∧ x.mark = true ∧ y.unforced = true

/-- Whether an evaluation sets a channel's change flag (R54). -/
def ChannelChanged (x y : Channel) : Bool :=
  (x.output != y.output) || (x.output && y.output && x.mark && y.unforced)

/-- The 16 channels evaluated at a sample timer expiry (R43 to R54): each from its source; the detectors' faults and the
healthy detectors follow the sample set; FILTER CHANGE is raised for every change flag set on a channel not masked. -/
structure ChannelsEvaluated (s t : State) : Prop where
  channels : ∀ n, 1 ≤ n → n ≤ 16 →
    ∃ source, SourceIs s n source ∧ ChannelEvaluated (channelSettings s n) source (channelAt s n) (channelAt t n)
  faults : ∀ n, 1 ≤ n → n ≤ 4 → (at1 false t.bank.detectorFault n = true ↔
    (detectorKind s n = .heat ∨ detectorKind s n = .gas)
      ∧ s.bank.current.bind (fun x => [x.an1, x.an2, x.an3, x.an4].getD (n - 1) none) = none)
  healthy : t.bank.healthy = [1, 2, 3, 4].countP (fun n =>
    decide (detectorKind s n ≠ .absent) && !at1 false t.bank.detectorFault n)
  bank : t.bank = { s.bank with
    channels := t.bank.channels, detectorFault := t.bank.detectorFault, healthy := t.bank.healthy }
  port : t.port = { ((sixteenNumbers.filter (fun n =>
      ChannelChanged (channelAt s n) (channelAt t n) && !at1 false s.port.channelMasks n)).foldl
        (fun u _ => raise .filterChange u) s).port with reChange := t.port.reChange }
  markers : ∀ n, 1 ≤ n → n ≤ 16 → at1 false t.port.reChange n =
    (at1 false s.port.reChange n || (ChannelChanged (channelAt s n) (channelAt t n) && returnedFlag s.port n))
  others : OnlyChanges [.bank, .port] s t

/-! ## The Discharge Engine at a sample timer expiry -/

/-- The filter change taken by the engine (R93, R108): a change of PACK HOT recomputes the target; a turn of PACK STOP to SET
orders an unload for HOT and adds HOT to the bound record's marks, of which the Zone Unit is told. The recomputation comes
first (log entry 58). -/
def FilterTaken (hot stop : Bool) (s t : State) : Prop :=
  ∃ u, u = (if hot = channelOut s 5 then s else { s with engine := retargeted s })
    ∧ (stop = true ∨ channelOut s 6 = false ∨ s.engine.state = .idle ∨ s.engine.state = .done → t = u)
    ∧ (stop = false → channelOut s 6 = true → s.engine.state ≠ .idle → s.engine.state ≠ .done →
      ∀ id, s.engine.bound = some id → ∃ v, RecordsTold v t
        ∧ v.engine = u.engine.ordered (.handBack .hot)
        ∧ StoreIs { s.store with
            records := recordsWith id (·.withData (fun d => { d with marks := { d.marks with hot := true } })) s } v
        ∧ OnlyChanges [.engine, .store] u v)

/-- The sample of an expiry judged (R97); a status that becomes LOST leaves MEASUREMENT LOSS due (R98, log entry 1). -/
structure SampleJudged (fresh : Option Reading) (e e' : Engine) : Prop where
  valid : ∀ m, fresh = some m → e' = { e with status := .valid, gap := 0, lastValid := some m }
  held : fresh = none → e.status ≠ .lost → e.gap ≤ 2 → e' = { e with status := .held, gap := e.gap + 1 }
  lost : fresh = none → e.status = .lost ∨ 3 ≤ e.gap →
    e' = { e with
      status := .lost, gap := min (e.gap + 1) 255, lossDue := e.lossDue || decide (e.status ≠ .lost) }

/-- The energy of a fresh sample (R99). -/
structure SampleIntegrated (m : Reading) (s t : State) : Prop where
  energy : s.engine.state ∈ [.ramp, .run, .unload] → 0 < m.v → 0 < m.i → ∀ id, s.engine.bound = some id →
    StoreIs { s.store with
      records := recordsWith id (·.withData (integrate (m.v.toNat * m.i.toNat))) s } t
    ∧ OnlyChanges [.store] s t
  reverse : s.engine.state ∈ [.ramp, .run, .unload] → m.i < 0 →
    t = { s with engine := { s.engine with reverse := min (s.engine.reverse + 1) 65535 } }
  nothing : s.engine.state ∉ [.ramp, .run, .unload] ∨ m.i = 0 ∨ (0 < m.i ∧ m.v ≤ 0) → t = s

/-- The test of the polarity of a fresh sample (R100). -/
structure PolarityTested (m : Reading) (s t : State) : Prop where
  reversed : s.engine.state ∈ [.ramp, .run] → m.v < 0 → ∀ id, s.engine.bound = some id →
    t.engine = s.engine.unloading (.fault .polarity)
    ∧ StoreIs { s.store with
        records := recordsWith id (·.withData (fun d => { d with marks := { d.marks with polarity := true } })) s } t
    ∧ OnlyChanges [.engine, .store] s t
  nothing : s.engine.state ∉ [.ramp, .run] ∨ 0 ≤ m.v → t = s

/-- Whether a fresh sample ends the round of a record (R101). -/
def RoundEnded (m : Reading) (r : PackRecord) (s : State) : Prop :=
  cellVoltage m.v r.data.cells ≤ (curveOf s r.data.chemistry).endVoltage
    ∨ ∃ e, r.data.eDecl = some e ∧ e - r.data.eDis ≤ s.cfg.releaseLimit

/-- The test for the end of the round (R101). -/
structure RoundTested (m : Reading) (s t : State) : Prop where
  ends : s.engine.state ∈ [.ramp, .run] → 0 ≤ m.v → ∀ id r, s.engine.bound = some id → findRecord id s = some r →
    RoundEnded m r s → t = { s with engine := s.engine.unloading .rest }
  goesOn : s.engine.state ∈ [.ramp, .run] → 0 ≤ m.v → ∀ id r, s.engine.bound = some id → findRecord id s = some r →
    ¬RoundEnded m r s → t = s
  nothing : s.engine.state ∉ [.ramp, .run] ∨ m.v < 0 → t = s

/-- The settle run, the zero run and the rest current run at an expiry that found the engine in state `was` (R94, R95, R96,
R103, R104). The settle timer stops as the current becomes settled (log entry 32). -/
structure RunsUpdated (was : EngineState) (fresh : Option Reading) (s t : State) : Prop where
  agrees : s.engine.state ∈ [.ramp, .run] → ∀ m, fresh = some m →
    (m.i - (s.engine.present * s.cfg.stepCurrent : Nat)).natAbs ≤ s.cfg.stepCurrent →
    t = { s with engine := { s.engine with
      settleRun := min (s.engine.settleRun + 1) 255
      settleTimer :=
        if s.engine.settleRun < s.cfg.settleCount ∧ s.cfg.settleCount ≤ min (s.engine.settleRun + 1) 255 then none
        else s.engine.settleTimer } }
  breaks : s.engine.state ∈ [.ramp, .run] → ∀ m, fresh = some m →
    s.cfg.stepCurrent < (m.i - (s.engine.present * s.cfg.stepCurrent : Nat)).natAbs →
    t = { s with engine := { s.engine with
      settleRun := 0
      settleTimer := if s.engine.state = .run ∧ s.engine.settleTimer = none then some s.cfg.settleTimeout
        else s.engine.settleTimer } }
  loaded : was = .unload → s.engine.state = .unload → 0 < s.engine.present →
    t = { s with engine := { s.engine with zeroRun := 0 } }
  zero : was = .unload → s.engine.state = .unload → s.engine.present = 0 →
    s.engine.status = .lost
      ∨ s.engine.status = .valid ∧ (∃ m, s.engine.lastValid = some m ∧ m.i.natAbs < s.cfg.zeroThreshold) →
    t = { s with engine := { s.engine with zeroRun := s.engine.zeroRun + 1 } }
  current : was = .unload → s.engine.state = .unload → s.engine.present = 0 → s.engine.status = .valid →
    (∃ m, s.engine.lastValid = some m ∧ s.cfg.zeroThreshold ≤ m.i.natAbs) →
    t = { s with engine := { s.engine with zeroRun := 0 } }
  held : was = .unload → s.engine.state = .unload → s.engine.present = 0 → s.engine.status = .held → t = s
  rest : was = .rest → s.engine.state = .rest → ∀ m, fresh = some m →
    t = { s with engine := { s.engine with
      restRun := if s.cfg.zeroThreshold ≤ m.i.natAbs then s.engine.restRun + 1 else 0 } }
  nothing : s.engine.state ∈ [.idle, .connect, .done, .fault, .isolate]
      ∨ s.engine.state ∈ [.unload, .rest] ∧ was ≠ s.engine.state
      ∨ s.engine.state ∈ [.ramp, .run, .rest] ∧ fresh = none → t = s

/-- The test for entry into RUN (R96). -/
structure RunTested (s t : State) : Prop where
  enters : s.engine.state = .ramp → s.engine.present = s.engine.target → s.cfg.settleCount ≤ s.engine.settleRun →
    t = { s with engine := { s.engine with state := .run, contactor := true, settleTimer := none } }
  stays : ¬(s.engine.state = .ramp ∧ s.engine.present = s.engine.target ∧ s.cfg.settleCount ≤ s.engine.settleRun) →
    t = s

/-- The Discharge Engine of a BAY at a sample timer expiry (R94, steps 1 to 3 and the entry into RUN), after the other blocks
have taken the filter change. `was` is its state as the expiry began, `hot` and `stop` the outputs of PACK HOT and PACK STOP
before it, `fresh` its reading where a new set with V, I and T was taken. What the expiry makes due follows as commands of
their own (log entry 1). -/
def EngineExpired (was : EngineState) (hot stop : Bool) (fresh : Option Reading) (s t : State) : Prop :=
  ∃ u e v w x y, FilterTaken hot stop s u ∧ SampleJudged fresh u.engine e
    ∧ (fresh = none → y = { u with engine := e })
    ∧ (∀ m, fresh = some m →
        SampleIntegrated m { u with engine := e } v ∧ PolarityTested m v w ∧ RoundTested m w y)
    ∧ RunsUpdated was fresh y x ∧ RunTested x t

/-! ## What is not due, step by step in the order of R94 -/

/-- No measurement loss waits. -/
def quietLoss (s : State) : Bool := !s.engine.lossDue
/-- And no ramp step. -/
def quietRamp (s : State) : Bool :=
  quietLoss s && !(stepping s.engine.state && decide (s.cfg.rampInterval ≤ s.engine.rampCount))
/-- And no unload completion. -/
def quietUnload (s : State) : Bool :=
  quietRamp s && !decide (s.engine.state = .unload ∧ s.cfg.settleCount ≤ s.engine.zeroRun)
/-- And no rest current fault. -/
def quietRestCurrent (s : State) : Bool :=
  quietUnload s && !decide (s.engine.state = .rest ∧ s.cfg.settleCount ≤ s.engine.restRun)
/-- And no stuck load. -/
def quietStuck (s : State) : Bool :=
  quietRestCurrent s && !decide (s.engine.state = .unload ∧ unloadBound s < s.engine.unloadCount)
/-- And no settle timeout. -/
def quietSettle (s : State) : Bool :=
  quietStuck s && !(settling s.engine.state && decide (s.engine.settleTimer = some 0))
/-- And no rest timer expiry. -/
def quietRest (s : State) : Bool :=
  quietSettle s && !decide (s.engine.state = .rest ∧ s.engine.restTimer = some 0)
/-- And no contactor check expiry. -/
def quietCheck (s : State) : Bool := quietRest s && !decide (s.engine.checkTimer = some 0)
/-- And no countdown end. -/
def quietCountdown (s : State) : Bool :=
  quietCheck s && !decide (s.zone.level = .countdown ∧ s.zone.endDue = true)
/-- And no entry into RUNNING. -/
def quietRunning (s : State) : Bool :=
  quietCountdown s && !decide (s.start.phase = .listening ∧ 3 ≤ s.peers.periodCount)
/-- And no closing of the start window. -/
def quietWindow (s : State) : Bool :=
  quietRunning s && !decide (s.peers.windowOpen = true ∧ 20 ≤ s.peers.periodCount)

end Sys2Proof.Machine
end

