-- ==== Sys2Proof/WellFormed.lean ====
section
/-! DEFINITION. The commands that the outside of the part can really send: frames whose fields their layouts hold, bytes of
a length the medium allows, stations of the line. The meanings take every other command too, and change nothing or count
an error there. -/

namespace Sys2Proof

open Sys2Proof.Machine

/-- The widest configuration answer the memory gives is a whole block; it tries at most three times (R198). -/
def answersOk (tries : List (Option (List Byte))) : Bool := decide (tries.length ≤ 3)

/-- Whether a command is one that can occur. -/
def Instr.wellFormed : Instr → Bool
  | .configurationRead tries => answersOk tries
  | .epochWrite reads acks backs => decide (reads.length ≤ 3 ∧ acks.length ≤ 3 ∧ backs.length ≤ 3)
  | .contentionLost bit => isKeyBit bit
  | .frameAbort bit => decide (bit < 720)
  | .malformedLength n => decide (n.toNat < 8 ∨ 72 < n.toNat)
  | .badFrame bytes => decide (8 ≤ bytes.length ∧ bytes.length ≤ 72) && (receipt bytes).isNone
  | .stateReceived f => stateOk f
  | .joinReceived f => joinOk f
  | .alarmReceived f => alarmOk f
  | .offerReceived f => handoffOk (.offer f)
  | .grantReceived f => handoffOk (.grant f)
  | .refuseReceived f => handoffOk (.refuse f)
  | .takenReceived f => handoffOk (.taken f)
  | .cancelReceived f => handoffOk (.cancel f)
  | .refusalStreakQuiet n => stationOk n
  | .silenceTimerExpiry n => stationOk n
  | .sampleSetArrival _ stray => decide (stray < 8)
  | .badEnvelope bytes => decide (bytes ≠ [])
  | .startReset => true
  | .enterRunning => true
  | .quietIntervalEnd => true
  | .frameComplete => true
  | .framingError => true
  | .incompleteFrame => true
  | .periodTimerExpiry => true
  | .startWindowClose => true
  | .sampleTimerExpiry _ => true
  | .rampStep => true
  | .settleTimeout => true
  | .measurementLoss => true
  | .unloadComplete => true
  | .restCurrentFault => true
  | .loadStuck => true
  | .contactorCheckExpiry => true
  | .restTimerExpiry => true
  | .offerTimerExpiry _ => true
  | .backOffExpiry _ => true
  | .transitTimerExpiry _ => true
  | .grantHoldExpiry _ => true
  | .purgeTimerExpiry => true
  | .countdownEnd => true
  | .replyRead _ => true
  | .testFrame _ => true
  | .readLink _ => true
  | .setAdmission _ _ => true
  | .readPeer _ _ => true
  | .readLineView _ => true
  | .testChannel _ _ => true
  | .readFilters _ => true
  | .admitPack _ _ => true
  | .forward _ _ => true
  | .hold _ _ => true
  | .arrived _ _ _ => true
  | .recover _ _ => true
  | .remove _ _ => true
  | .readRecord _ _ => true
  | .readStore _ => true
  | .start _ => true
  | .stop _ => true
  | .readEngine _ => true
  | .readResidual _ => true
  | .purge _ => true
  | .feed _ => true
  | .consumed _ _ => true
  | .withdrawFeed _ _ => true
  | .readAtmosphere _ => true
  | .testDetector _ _ => true
  | .strictOn _ => true
  | .strictOff _ => true
  | .resetZone _ => true
  | .restoreZone _ => true
  | .readZone _ => true
  | .closeLot _ => true
  | .readTally _ => true
  | .readLot _ _ => true
  | .readEvents _ => true
  | .setMask _ _ _ => true
  | .readConfigStatus _ => true

end Sys2Proof
end

