-- ==== Sys2Proof/Certificates/Slice0/Obligations.lean ====
section
/-! DEFINITION. The statements for the provers, each `def Obligations.<Name> : Prop`, in the order of OBLIGATIONS.json. -/

open Sys2Proof Sys2Proof.Machine

/-! ## The whole part -/

/-- A step takes the command at the front of the queue and executes it with the rest of the queue; with no command waiting
the part idles (log entry 10); no step ends in a fault or a refusal. -/
def Obligations.StepTakesFront : Prop :=
  ∀ s : State,
    (∀ c rest, s.pending = c :: rest → step s = exec c { s with pending := rest })
      ∧ (s.pending = [] → step s = .next s)
      ∧ ∃ t, step s = .next t

/-- The state after start reset: phase LOADING, every block at the start values of its own rule, and every property of
`Safe`. That the contacts stand open, the sensor readings are absent, no byte has been clocked out, and the inputs of the
channels and the FAULT status of the detectors are false is the model's choice (log entries 3, 4, 5 and 45). -/
def Obligations.ResetIsSafe : Prop :=
  Safe State.reset ∧ Inactive State.reset ∧ State.reset.pending = [] ∧ State.reset.port = {}
    ∧ State.reset.start.phase = .loading ∧ State.reset.start.failing = none
    ∧ State.reset.link.state = .active ∧ State.reset.link.nextSequence = 0
    ∧ (∀ n, State.reset.peer n = {}) ∧ State.reset.peers.windowOpen = true
    ∧ State.reset.engine.state = .idle ∧ State.reset.engine.contactor = false
    ∧ State.reset.engine.status = .lost ∧ State.reset.engine.endNote = none
    ∧ State.reset.atm.state = .opened ∧ State.reset.atm.supply = .primary ∧ State.reset.atm.effective = none
    ∧ State.reset.zone.level = .normal ∧ State.reset.zone.strictInForce = true
    ∧ State.reset.zone.suppression = false ∧ State.reset.zone.isolationLatch = false
    ∧ State.reset.tally.nextLot = 1 ∧ State.reset.tally.balance = 0
    ∧ State.reset.store.records = [] ∧ State.reset.store.reservations = []

/-- START RESET, CONFIGURATION READ and EPOCH WRITE apart, no command changes the configuration or the own epoch; none
changes the factory identity or the commands that wait. The phases: LOADING is entered only by START RESET, SAFE HALT from
LOADING by CONFIGURATION READ and LISTENING from LOADING by EPOCH WRITE alone, RUNNING only from LISTENING with ENTER
RUNNING due (three period timer expiries), whatever command takes it (log entry 1); RUNNING and SAFE HALT are left only by
START RESET. That the factory identity and the commands that wait stay at START RESET is the model's choice (log entry 41).
-/
def Obligations.StartIsOrdered : Prop :=
  ∀ (c : Instr) (s t : State), exec c s = .next t →
    t.uniqueId = s.uniqueId ∧ t.pending = s.pending
      ∧ (t.cfg = s.cfg ∨ c = .startReset ∨ ∃ a, c = .configurationRead a)
      ∧ (t.start.epoch = s.start.epoch ∨ c = .startReset ∨ ∃ a b d, c = .epochWrite a b d)
      ∧ (s.start.phase = .safeHalt → t.start = s.start ∨ c = .startReset)
      ∧ (t.start.phase = .loading → s.start.phase = .loading ∨ c = .startReset)
      ∧ (t.start.phase = .running →
          s.start.phase = .running ∨ s.start.phase = .listening ∧ 3 ≤ s.peers.periodCount)
      ∧ (t.start.phase = .listening →
          s.start.phase = .listening ∨ s.start.phase = .loading ∧ ∃ a b d, c = .epochWrite a b d)
      ∧ (t.start.phase = .safeHalt →
          s.start.phase = .safeHalt ∨ s.start.phase = .loading ∧ ∃ a, c = .configurationRead a)
      ∧ (s.start.phase = .running → t.start.phase = .running ∨ c = .startReset)

/-- The reply to every request carries the tag of the request, and a code that is not NONE. -/
def Obligations.RequestTagReturned : Prop :=
  ∀ (c : Instr) (s t : State) (code : Nat) (tag : Byte) (ps : List Byte),
    requestParts c = some (code, tag, ps) → exec c s = .next t →
      ∃ r, t.port.pendingReply = some r ∧ r.tag = tag ∧ r.code ≠ .none
        ∧ (r.overrun = true ↔ (∃ q, s.port.pendingReply = some q))

/-- Before LISTENING every request but READ EVENTS and READ CONFIG STATUS is refused, STARTING in LOADING and HALTED in
SAFE HALT, and changes nothing but the reply. -/
def Obligations.RequestsBeforeListening : Prop :=
  ∀ (c : Instr) (s : State) (code : Nat) (tag : Byte) (ps : List Byte),
    requestParts c = some (code, tag, ps) → code ≠ 34 → code ≠ 36 → noneDue s = true →
      (s.start.phase = .loading → exec c s = .next (replyRefused tag .starting s))
        ∧ (s.start.phase = .safeHalt → exec c s = .next (replyRefused tag .halted s))

/-- A frame within its ranges, sent as its bytes and received, is that frame; under a complemented check it is not
received. A STATE of a role other than CHAMBER is received whatever CHAMBER values it carries (log entry 23). -/
def Obligations.SentFrameIsReceived : Prop :=
  ∀ f : Frame, frameOk f = true → receipt (frameBytes f false) = some f ∧ receipt (frameBytes f true) = none

/-- A request put into its envelope and clocked in is that request, whatever bytes follow it in the transfer. -/
def Obligations.EnvelopeSpellsRequest : Prop :=
  ∀ (c : Instr) (bs extra : List Byte), requestEnvelope c = some bs →
    judgeEnvelope (bs ++ extra) = .good ∧ readRequest (bs ++ extra) = some c

/-! ## Invariants of every step -/

/-- Every step keeps the contactor output, the load step output and the bounds of the steps with the engine state. -/
def Obligations.StepKeepsEngineSafe : Prop := ∀ s t : State, Safe s → step s = .next t → EngineSafe t

/-- Every step keeps the bounds of the transmit state, and CLASHED keeps it empty. -/
def Obligations.StepKeepsLinkSafe : Prop := ∀ s t : State, Safe s → step s = .next t → LinkSafe t

/-- Every step leaves the transfer permit, the sums and the allowance as the records, the level, the link state and the
atmosphere give them, and at most 16 entries, no pack ID twice. -/
def Obligations.StepKeepsStoreFormed : Prop :=
  ∀ s t : State, Safe s → step s = .next t → StoreFormed t ∧ StoreBounded t

/-- Every step keeps the balance equal to the held count while no lost-count marker is set, and the bounds of the lot
journal. -/
def Obligations.StepKeepsTally : Prop :=
  ∀ s t : State, Safe s → step s = .next t → TallyBalanced t ∧ JournalBounded t

/-- Every step keeps the blocks at their start values before LISTENING and in SAFE HALT, and the engine idle at a role
other than BAY. -/
def Obligations.StepKeepsInactive : Prop :=
  ∀ s t : State, Safe s → step s = .next t → InactiveAtStart t ∧ EngineOnlyAtBay t

/-- Every step keeps the feed permit within the feed conditions. -/
def Obligations.StepKeepsFeedSafe : Prop := ∀ s t : State, Safe s → step s = .next t → FeedSafe t

/-- Every step keeps suppression asserted exactly in RELEASED, the countdown running exactly in COUNTDOWN, and both levels
to stations that own the output. That the countdown runs while ABORT pauses it is the model's choice (log entry 59). -/
def Obligations.StepKeepsSuppressionSafe : Prop := ∀ s t : State, Safe s → step s = .next t → SuppressionSafe t

/-- Every step leaves the valve outputs and the supply select as the atmosphere and supply states give them, and the
attention output as the counts and masks give it. -/
def Obligations.StepKeepsOutputs : Prop :=
  ∀ s t : State, Safe s → step s = .next t → ValvesFollow t ∧ AttentionFollows t

/-- Only START closes the contactor. -/
def Obligations.ContactorClosesByStart : Prop :=
  ∀ (c : Instr) (s t : State), EngineSafe s → exec c s = .next t →
    s.engine.contactor = false → t.engine.contactor = true → ∃ tag, c = .start tag

/-- Suppression is asserted only by the end of a countdown. -/
def Obligations.SuppressionByCountdown : Prop :=
  ∀ (c : Instr) (s t : State), exec c s = .next t →
    s.zone.suppression = false → t.zone.suppression = true → s.zone.level = .countdown ∧ s.zone.endDue = true

/-! ## Start up -/

/-- START RESET puts every block at its start values, in every phase; the factory identity, the commands that wait and the
count of free values stay. CONFIGURATION READ in LOADING makes one transaction for each of at most three tries: the bus
address hexadecimal 50, the two bytes of memory address 0, and a read of the whole block (log entries 43 and 60). It takes a
block that passes, and goes to SAFE HALT with the failing field where no block was acknowledged or a check fails; the curves
are then held as far as the checks have gone (log entry 44). An answer of another length counts as not acknowledged (log
entry 20), and of a curve not in use only the in-use byte is tested (log entry 21). -/
def Obligations.ConfigurationTakenOrHalted : Prop :=
  (∀ s : State, exec .startReset s =
      .next { State.reset with uniqueId := s.uniqueId, pending := s.pending, draws := s.draws })
    ∧ ∀ (tries : List (Option (List Byte))) (s : State), s.start.phase = .loading → s.start.configTaken = false →
      ∀ x, x = s.start.transactions
          ++ lineTries [0, 0] 564 (fun k => (tries.getD k none).any (fun b => decide (b.length = 564))) →
      ∃ t, exec (.configurationRead tries) s = .next t ∧
        (readBlock tries = none →
          OnlyChanges [.start, .port] s t ∧ t.port = (raise .peerChange s).port
            ∧ t.start = { s.start with phase := .safeHalt, failing := some .memory, transactions := x })
        ∧ (∀ b f, readBlock tries = some b → checkBlock b = some f →
          OnlyChanges [.start, .cfg, .port] s t ∧ t.port = (raise .peerChange s).port
            ∧ t.start = { s.start with
                phase := .safeHalt, failing := some f, storedCheck := some (storedCheckOf b), transactions := x }
            ∧ t.cfg = { s.cfg with curves := t.cfg.curves }
            ∧ (f = .check → ∀ k : Fin 4, t.cfg.curves[k] = {})
            ∧ (∀ j, f = .range .curve (some j) → ∀ k : Fin 4,
                t.cfg.curves[k] = if k.val < j then readCurve b k.val else {})
            ∧ (∀ g i, f = .range g i →
                g ∈ [.station, .role, .zone, .periodCode, .admissionMode, .allowList, .defaultDestination,
                  .alternateDestination, .quarantineDestination] →
                ∀ k : Fin 4, t.cfg.curves[k] = {})
            ∧ (∀ g i, f = .range g i →
                g ∉ [.station, .role, .zone, .periodCode, .admissionMode, .allowList, .defaultDestination,
                  .alternateDestination, .quarantineDestination, .curve] →
                ∀ k : Fin 4, t.cfg.curves[k] = readCurve b k.val)
            ∧ (∀ g i, f = .relation g i → ∀ k : Fin 4, t.cfg.curves[k] = readCurve b k.val))
        ∧ (∀ b, readBlock tries = some b → checkBlock b = none →
          OnlyChanges [.start, .cfg, .peers, .store, .port] s t ∧ t.cfg = readSettings b
            ∧ t.start = { s.start with
                configTaken := true, storedCheck := some (storedCheckOf b), transactions := x }
            ∧ t.peers = { s.peers with mode := (readSettings b).admissionMode }
            ∧ StoreIs s.store t
            ∧ t.port = { s.port with
                kindMasks := (readSettings b).kindMasks
                channelMasks := (readSettings b).channelMasks
                attention := attentionOf s.port.counts (readSettings b).kindMasks })

/-- EPOCH WRITE in LOADING, once the configuration is taken: the own epoch is one more than the epoch byte read, 1 where
none could be read; the outcome is WRITTEN where the write was acknowledged and read back, else FAILED (a read back that
nobody acknowledges included, log entry 19), which raises PEER CHANGE with EPOCH WRITE; LISTENING begins with both timers
running and a JOIN under the new epoch in its slot. The transactions read the byte at memory address 1023, write the epoch
there and read it again, each in at most three tries (log entry 43). -/
def Obligations.EpochWriteBeginsListening : Prop :=
  ∀ (reads : List (Option Byte)) (acks : List Bool) (backs : List (Option Byte)) (s : State),
    s.start.phase = .loading → s.start.configTaken = true → Inactive s →
      ∃ (e : Nat) (t : State), exec (.epochWrite reads acks backs) s = .next t
        ∧ (∀ b, firstAck reads = some b → e = (b.toNat + 1) % 256) ∧ (firstAck reads = none → e = 1)
        ∧ t.start = { s.start with
            phase := .listening
            epoch := some e
            outcome := some (if epochWritten e acks backs then .written else .failed)
            transactions := s.start.transactions
              ++ lineTries [3, 255] 1 (fun k => (reads.getD k none).isSome)
              ++ lineTries [3, 255, BitVec.ofNat 8 e] 0 (fun k => acks.getD k false)
              ++ lineTries [3, 255] 1 (fun k => (backs.getD k none).isSome) }
        ∧ t.link = { s.link with
            joinSlot := some
              { station := s.cfg.station, role := s.cfg.role, zone := s.cfg.zone, periodCode := s.cfg.periodCode,
                epoch := e, uniqueId := s.uniqueId } }
        ∧ t.bank = { s.bank with sampleTimer := true }
        ∧ (epochWritten e acks backs = true →
            t.peers = { s.peers with periodTimer := true } ∧ t.port = s.port)
        ∧ (epochWritten e acks backs = false →
            t.peers = { s.peers with
              periodTimer := true, note := some { reason := .epochWrite, station := s.cfg.station } }
            ∧ t.port = (raise .peerChange s).port)
        ∧ OnlyChanges [.start, .link, .peers, .bank, .port] s t

/-- The steps that a period timer expiry leaves due, each with nothing due before it: the third expiry of LISTENING enters
RUNNING, places a STATE and examines the records for an offer, whose first send is made where R63 and R64 allow it; the
twentieth closes the start window; a quiet count of 20 returns a refusal streak to 0. -/
def Obligations.PeriodStepsDue : Prop :=
  (∀ s : State, quietCountdown s = true → s.start.phase = .listening → 3 ≤ s.peers.periodCount →
      ∃ t, exec .enterRunning s = .next t ∧ t.start = { s.start with phase := .running }
        ∧ (s.link.state = .active →
            t.link.stateSlot = some { ownState s with sequence := s.link.nextSequence }
              ∧ t.link.nextSequence = (s.link.nextSequence + 1) % 16)
        ∧ OfferExamined { s with
            start := { s.start with phase := .running }, link := s.link.withState (ownState s) } t
        ∧ OnlyChanges [.start, .link, .store] s t)
    ∧ (∀ s : State, quietRunning s = true → s.peers.windowOpen = true → 20 ≤ s.peers.periodCount →
      exec .startWindowClose s = .next { s with peers := { s.peers with windowOpen := false } })
    ∧ ∀ (n : Nat) (s : State), quietWindow s = true → stationOk n = true →
      0 < (s.peer n).streak → 20 ≤ at1 0 s.store.quiet n →
      ∃ t, exec (.refusalStreakQuiet n) s = .next t ∧ t.peer n = { s.peer n with streak := 0 }
        ∧ (∀ m, m ≠ n → t.peer m = s.peer m)
        ∧ t.peers = { s.peers with entries := t.peers.entries } ∧ OnlyChanges [.peers] s t

/-! ## The Line Link: transmitting -/

/-- At the end of a quiet interval an ACTIVE station with no attempt on the line attempts its ALARM; else the oldest
handoff frame, unless a STATE has been passed over three times or no handoff frame waits, when it attempts the STATE with
the receive error count as its echo; else its JOIN; else nothing. -/
def Obligations.QuietIntervalChoosesFrame : Prop :=
  ∀ s : State, Ready s → s.link.state = .active → s.link.attempt = none →
    (∀ f, s.link.alarmSlot = some f →
      exec .quietIntervalEnd s = .next { s with
        link := { s.link with attempt := some { frame := .alarm f, wire := frameBytes (.alarm f) false } } })
    ∧ (∀ h rest, s.link.alarmSlot = none → s.link.queue = h :: rest → s.link.stateSlot = none ∨ s.link.ahead ≠ 3 →
      exec .quietIntervalEnd s = .next { s with
        link := { s.link with attempt := some { frame := .handoff h, wire := frameBytes (.handoff h) false } } })
    ∧ (∀ f, s.link.alarmSlot = none → s.link.stateSlot = some f → s.link.queue = [] ∨ s.link.ahead = 3 →
      exec .quietIntervalEnd s = .next { s with
        link := { s.link with
          attempt := some
            { frame := .state { f with echo := s.link.receiveErrors }
              underTest := s.link.testRequest
              wire := frameBytes (.state { f with echo := s.link.receiveErrors }) s.link.testRequest } } })
    ∧ (∀ f, s.link.alarmSlot = none → s.link.stateSlot = none → s.link.queue = [] → s.link.joinSlot = some f →
      exec .quietIntervalEnd s = .next { s with
        link := { s.link with attempt := some { frame := .join f, wire := frameBytes (.join f) false } } })
    ∧ (s.link.alarmSlot = none → s.link.stateSlot = none → s.link.queue = [] → s.link.joinSlot = none →
      exec .quietIntervalEnd s = .next s)

/-- A loss of contention within the key bits ends the attempt and leaves its frame where it was; any other difference aborts
it and adds 1 to the clash suspicion count. A STATE that was replaced while it was attempted is then counted as an overrun.
The third abort in a row does all of this too and then makes the link CLASHED for ABORTS: slots and queue empty, the
sequence number and the counts kept, both permits deasserted, a closed contactor's engine ordered to unload, PEER CHANGE
with LINK CLASHED. -/
def Obligations.AttemptLostOrAborted : Prop :=
  ∀ (a : Attempt) (bit : Nat) (s : State), Ready s → s.link.attempt = some a →
    (isKeyBit bit = true → drives a bit = some true →
      exec (.contentionLost bit) s = .next { s with
        link := { s.link with
          attempt := none
          stateOverruns := if isState a.frame = true ∧ a.replaced = true then min (s.link.stateOverruns + 1) 65535
          else s.link.stateOverruns } })
    ∧ (∀ level, drives a bit = some level → ¬(isKeyBit bit = true ∧ level = true) →
      (s.link.suspicion < 2 →
        exec (.frameAbort bit) s = .next { s with
          link := { s.link with
            attempt := none
            suspicion := s.link.suspicion + 1
            stateOverruns := if isState a.frame = true ∧ a.replaced = true then min (s.link.stateOverruns + 1) 65535
            else s.link.stateOverruns } })
      ∧ (2 ≤ s.link.suspicion → s.link.state = .active →
        ∃ t, exec (.frameAbort bit) s = .next t
          ∧ ClashEntered .aborts { s with
              link := { s.link with
                attempt := none
                suspicion := s.link.suspicion + 1
                stateOverruns :=
                  if isState a.frame = true ∧ a.replaced = true then min (s.link.stateOverruns + 1) 65535
                  else s.link.stateOverruns } } t))

/-- A completed attempt removes the frame it sent, unless a newer one has taken its slot, and returns the clash suspicion
count to 0. A completed STATE returns the receive error count and the ahead count to 0, and clears the test frame request
it was made under; a completed handoff frame leaves the queue and adds to the ahead count of a waiting STATE. -/
def Obligations.CompletedFrameLeaves : Prop :=
  ∀ (a : Attempt) (s : State), Ready s → s.link.attempt = some a →
    (∀ f, a.frame = .alarm f →
      exec .frameComplete s = .next { s with
        link := { s.link with
          attempt := none, suspicion := 0, alarmSlot := if a.replaced then s.link.alarmSlot else none } })
    ∧ (∀ f, a.frame = .join f →
      exec .frameComplete s = .next { s with
        link := { s.link with
          attempt := none, suspicion := 0, joinSlot := if a.replaced then s.link.joinSlot else none } })
    ∧ (∀ f, a.frame = .state f →
      exec .frameComplete s = .next { s with
        link := { s.link with
          attempt := none, suspicion := 0, receiveErrors := 0, ahead := 0
          stateSlot := if a.replaced then s.link.stateSlot else none
          testRequest := if a.underTest then false else s.link.testRequest } })
    ∧ (∀ f rest, a.frame = .handoff f → s.link.queue = f :: rest →
      exec .frameComplete s = .next { s with
        link := { s.link with
          attempt := none, suspicion := 0, queue := rest
          ahead := if s.link.stateSlot.isSome then min 3 (s.link.ahead + 1) else 0 } })

/-! ## The Line Link: receiving -/

/-- While no frame of its own is on the line, a framing error, an incomplete frame, a length field outside 8 to 72 and a
frame that fails a receipt check each count one receive error, in the count and in the total, and change nothing else. A
good frame under the own number makes an ACTIVE link CLASHED with SELF HEARD, and in CLASHED nothing. A good handoff frame
addressed elsewhere is discarded without counting. An ALARM, GRANT, REFUSE, TAKEN or CANCEL of a station that is not
ADMITTED is counted in its discards, and the station as heard for 1.5 P. -/
def Obligations.ReceiveErrorsCounted : Prop :=
  (∀ (c : Instr) (s : State), Ready s → s.link.attempt = none →
    (c = .framingError ∨ c = .incompleteFrame ∨ (∃ n : Byte, c = .malformedLength n ∧ (n.toNat < 8 ∨ 72 < n.toNat))
      ∨ ∃ bytes, c = .badFrame bytes ∧ receipt bytes = none) →
    exec c s = .next { s with
      link := { s.link with
        receiveErrors := min (s.link.receiveErrors + 1) 255
        receiveTotal := min (s.link.receiveTotal + 1) 4294967295 } })
    ∧ ∀ (c : Instr) (x : Frame) (s : State), Ready s → s.link.attempt = none → receivedFrame c = some x →
      (frameOk x = false → exec c s = .next { s with
        link := { s.link with
          receiveErrors := min (s.link.receiveErrors + 1) 255
          receiveTotal := min (s.link.receiveTotal + 1) 4294967295 } })
      ∧ (frameOk x = true → frameSender x = s.cfg.station → s.link.state = .active →
          ∃ t, exec c s = .next t ∧ ClashEntered .selfHeard s t)
      ∧ (frameOk x = true → frameSender x = s.cfg.station → s.link.state = .clashed → exec c s = .next s)
      ∧ (∀ h, frameOk x = true → frameSender x ≠ s.cfg.station → x = .handoff h →
          (handoffHead h).destination ≠ s.cfg.station → exec c s = .next s)
      ∧ (frameOk x = true → frameSender x ≠ s.cfg.station → (s.peer (frameSender x)).admission ≠ .admitted →
          (∃ f, x = .alarm f)
            ∨ (∃ h, x = .handoff h ∧ (handoffHead h).destination = s.cfg.station ∧ ∀ f, h ≠ .offer f) →
          ∃ t, exec c s = .next t
            ∧ EntryBecomes (frameSender x)
                { (s.peer (frameSender x)).discarded with heard := true, silenceTimer := some 3 } s t)

/-- A good STATE is first examined for the own number in its unheard list. One of an ADMITTED peer under its recorded epoch,
role, zone and period code is taken: its outcomes join the window (one HIT for the first STATE; at distance d from the last
sequence d − 1 MISS and a HIT; none at distance 0) with the step tests of R28, and its sequence, its published values and a
silence timer of 1.5 P are taken; no other entry changes. IN STEP its echo joins the current bucket, and any addition that
leaves the sum above 64 raises LINE ERRORS while the hold-off is 0 (log entry 16). Then its values are handed over. Another
role, zone or period code under the recorded epoch is counted as discarded; another epoch is a restart, after which the
STATE counts as one of a station not ADMITTED: as discarded, and the station as heard. At a restart the exchanges end before
the handover (log entry 51). The order of the CANCEL frames that an ending of exchanges or a rise places (log entry 48),
HEAT for a detector of the kind NONE (31) and the settle run that a new target leaves (33) are the model's. -/
def Obligations.StateTakenOrDiscarded : Prop :=
  ∀ (f : StateFrame) (s : State), Ready s → s.link.attempt = none → stateOk f = true → f.station ≠ s.cfg.station →
    ∃ u t, exec (.stateReceived f) s = .next t ∧ UnheardExamined f s u
    ∧ ((s.peer f.station).admission = .admitted → (s.peer f.station).recordedEpoch = some f.epoch →
      (s.peer f.station).recordedRole = some f.role → (s.peer f.station).recordedZone = some f.zone →
      (s.peer f.station).recordedPeriod = some f.periodCode →
        (t.peer f.station).lastSequence = some f.sequence
        ∧ (t.peer f.station).published = some (publishedOf f)
        ∧ (t.peer f.station).silenceTimer = some 3
        ∧ (t.peer f.station).admission = .admitted
        ∧ ((s.peer f.station).lastSequence = none →
            (t.peer f.station).window = (.hit :: (s.peer f.station).window).take 8)
        ∧ (∀ l d, (s.peer f.station).lastSequence = some l → d = (f.sequence + 16 - l) % 16 →
            (t.peer f.station).window =
              (if d = 0 then (s.peer f.station).window
               else (.hit :: (List.replicate (d - 1) .miss ++ (s.peer f.station).window)).take 8))
        ∧ (∀ os, ((s.peer f.station).lastSequence = none → os = [.hit]) →
            (∀ l d, (s.peer f.station).lastSequence = some l → d = (f.sequence + 16 - l) % 16 →
              os = if d = 0 then [] else List.replicate (d - 1) .miss ++ [.hit]) →
            t.peer f.station = { (s.peer f.station).outcomes .sequence os with
              lastSequence := some f.sequence, published := some (publishedOf f), silenceTimer := some 3 })
        ∧ (∀ m, m ≠ f.station → t.peer m = s.peer m)
        ∧ (∃ v, PeerHandedOver f.station v t
            ∧ ((t.peer f.station).step ≠ .inStep →
              v = { u with peers := { u.peers with entries := t.peers.entries } })
            ∧ ∀ q, (t.peer f.station).step = .inStep → q = (u.peers.echo.headD 0 + f.echo) :: u.peers.echo.tail →
              v = (if 64 < q.sum ∧ u.peers.holdOff = 0 then
                  raise .lineErrors { u with
                    peers := { u.peers with entries := t.peers.entries, echo := q, holdOff := 8 } }
                else { u with peers := { u.peers with entries := t.peers.entries, echo := q } }))
        ∧ OnlyChanges [.peers, .link, .store, .engine, .atm, .zone, .tally, .port] s t)
    ∧ ((s.peer f.station).admission = .admitted → (s.peer f.station).recordedEpoch = some f.epoch →
      (s.peer f.station).recordedRole ≠ some f.role ∨ (s.peer f.station).recordedZone ≠ some f.zone
        ∨ (s.peer f.station).recordedPeriod ≠ some f.periodCode →
      EntryBecomes f.station (s.peer f.station).discarded u t)
    ∧ ((s.peer f.station).admission = .admitted → (s.peer f.station).recordedEpoch ≠ some f.epoch →
      ∃ v, PeerRestarted f.station f.epoch u v
        ∧ EntryBecomes f.station
            { (v.peer f.station).discarded with heard := true, silenceTimer := some 3 } v t)
    ∧ ((s.peer f.station).admission ≠ .admitted →
      EntryBecomes f.station { (s.peer f.station).discarded with heard := true, silenceTimer := some 3 } u t)

/-- The judgement of a JOIN for a station not ADMITTED, as R22 orders its tests, noted and handed over. Of an ADMITTED
station, a JOIN under its recorded values changes nothing, one under another role, zone or period code is counted as
discarded, one under another epoch is a restart and is then judged, and one under another unique ID sets the clash flag. At
a restart the exchanges end before the handover (log entry 51). The order of the CANCEL frames that an ending of exchanges
or a rise places (log entry 48), HEAT for a detector of the kind NONE (31) and the settle run that a new target leaves (33)
are the model's. -/
def Obligations.JoinJudged : Prop :=
  ∀ (f : JoinFrame) (s : State), Ready s → s.link.attempt = none → joinOk f = true → f.station ≠ s.cfg.station →
    ((s.peer f.station).admission ≠ .admitted →
      ∃ t, exec (.joinReceived f) s = .next t ∧ JoinTaken f s t
        ∧ (∀ m, m ≠ f.station → t.peer m = s.peer m)
        ∧ OnlyChanges [.peers, .link, .store, .engine, .atm, .zone, .tally, .port] s t
        ∧ (∀ r, (r = .periodMismatch ∧ f.periodCode ≠ s.cfg.periodCode)
              ∨ (r = .clash ∧ f.periodCode = s.cfg.periodCode
                  ∧ ∃ id, (s.peer f.station).recordedId = some id ∧ id ≠ f.uniqueId)
              ∨ (f.periodCode = s.cfg.periodCode
                  ∧ ((s.peer f.station).recordedId = none ∨ (s.peer f.station).recordedId = some f.uniqueId)
                  ∧ ((r = .notListed ∧ f.uniqueId ∉ s.cfg.allowList
                        ∧ (s.peers.mode = .listed ∨ s.peers.mode = .closed ∧ s.peers.windowOpen = true))
                    ∨ (r = .closed ∧ s.peers.mode = .closed ∧ s.peers.windowOpen = false))) →
            (t.peer f.station).admission = .refused r ∧ (t.peer f.station).recordedEpoch = some f.epoch
              ∧ (t.peer f.station).recordedId = (s.peer f.station).recordedId
              ∧ (t.peer f.station).recordedZone = (s.peer f.station).recordedZone
              ∧ (t.peer f.station).heard = true ∧ (t.peer f.station).silenceTimer = some 3
              ∧ (t.peer f.station).clashFlag = ((s.peer f.station).clashFlag || decide (r = .clash))
              ∧ t.peers.note = some { reason := .refused r, station := f.station })
        ∧ (f.periodCode = s.cfg.periodCode →
            (s.peer f.station).recordedId = none ∨ (s.peer f.station).recordedId = some f.uniqueId →
            s.peers.mode = .opened
              ∨ (s.peers.mode = .listed ∨ s.peers.mode = .closed ∧ s.peers.windowOpen = true)
                ∧ f.uniqueId ∈ s.cfg.allowList →
            (t.peer f.station).admission = .admitted ∧ (t.peer f.station).recordedId = some f.uniqueId
              ∧ (t.peer f.station).recordedRole = some f.role ∧ (t.peer f.station).recordedZone = some f.zone
              ∧ (t.peer f.station).recordedPeriod = some f.periodCode
              ∧ (t.peer f.station).recordedEpoch = some f.epoch
              ∧ (t.peer f.station).step = .seeking ∧ (t.peer f.station).window = []
              ∧ (t.peer f.station).lastSequence = none ∧ (t.peer f.station).published = none
              ∧ (t.peer f.station).silenceTimer = none ∧ (t.peer f.station).heard = false
              ∧ t.peers.note = some { reason := .admitted, station := f.station }))
    ∧ ((s.peer f.station).admission = .admitted → (s.peer f.station).recordedId = some f.uniqueId →
        (s.peer f.station).recordedEpoch = some f.epoch → (s.peer f.station).recordedRole = some f.role →
        (s.peer f.station).recordedZone = some f.zone → (s.peer f.station).recordedPeriod = some f.periodCode →
        exec (.joinReceived f) s = .next s)
    ∧ ((s.peer f.station).admission = .admitted → (s.peer f.station).recordedId = some f.uniqueId →
        (s.peer f.station).recordedEpoch = some f.epoch →
        (s.peer f.station).recordedRole ≠ some f.role ∨ (s.peer f.station).recordedZone ≠ some f.zone
          ∨ (s.peer f.station).recordedPeriod ≠ some f.periodCode →
        ∃ t, exec (.joinReceived f) s = .next t ∧ EntryBecomes f.station (s.peer f.station).discarded s t)
    ∧ ((s.peer f.station).admission = .admitted → (s.peer f.station).recordedId = some f.uniqueId →
        (s.peer f.station).recordedEpoch ≠ some f.epoch →
        ∃ u t, exec (.joinReceived f) s = .next t ∧ PeerRestarted f.station f.epoch s u ∧ JoinTaken f u t)
    ∧ ((s.peer f.station).admission = .admitted → (s.peer f.station).recordedId ≠ some f.uniqueId →
        ∃ t, exec (.joinReceived f) s = .next t
          ∧ t.peer f.station = { s.peer f.station with clashFlag := true }
          ∧ (∀ m, m ≠ f.station → t.peer m = s.peer m)
          ∧ t.peers.note = some { reason := .refused .clash, station := f.station }
          ∧ t.port = (raise .peerChange s).port ∧ OnlyChanges [.peers, .port] s t)

/-- An ALARM of an ADMITTED member that names its recorded zone, the own zone, and carries no test flag: ALARM UNCONFIRMED
raises an own level below it, a higher level raises an own level below ALARM CONFIRMED to ALARM CONFIRMED, or to COUNTDOWN
with its count where the station owns the suppression output; the cause is PEER, the level is published and handed on to the
other blocks. A PREALARM that finds a real own detector SET confirms a level below ALARM CONFIRMED with the own cause. One
under the test flag, a PREALARM that finds no real own detector SET, and one that finds the own level as high, change
nothing; one that may not act is counted as discarded. The order of the CANCEL frames that a rise places (log entry 48) and
HEAT for a detector of the kind NONE (log entry 31) are the model's. -/
def Obligations.AlarmRaisesLevel : Prop :=
  ∀ (f : AlarmFrame) (s : State), Ready s → s.link.attempt = none → alarmOk f = true → f.station ≠ s.cfg.station →
    (s.peer f.station).admission = .admitted →
    (f.zone = s.cfg.zone → (s.peer f.station).recordedZone = some f.zone →
      (f.testFlag = true → exec (.alarmReceived f) s = .next s)
      ∧ (f.testFlag = false → f.level = .prealarm → realDetectors s = [] → exec (.alarmReceived f) s = .next s)
      ∧ (∀ l, f.testFlag = false →
          (f.level = .alarmUnconfirmed ∧ levelRank s.zone.level < 2 ∧ l = .alarmUnconfirmed)
            ∨ (3 ≤ levelRank f.level ∧ levelRank s.zone.level < 3
                ∧ l = (if s.cfg.suppressionOwned then .countdown else .alarmConfirmed)) →
          ∃ t, exec (.alarmReceived f) s = .next t
            ∧ LevelChanged l false (some .peer) (.peer f.station (some f.cause)) s t
            ∧ t.zone.level = l ∧ t.zone.cause = some .peer ∧ t.zone.testFlag = false
            ∧ t.zone.countdown = decide (l = .countdown) ∧ t.zone.suppression = s.zone.suppression
            ∧ t.zone.releaseCount = (if l = .countdown then 100 * s.cfg.releaseDelay else 0)
            ∧ t.zone.isolationLatch = s.zone.isolationLatch
            ∧ t.zone.note = some
                { level := l, testFlag := false, cause := some .peer, origin := .peer f.station (some f.cause) }
            ∧ t.atm.feedPermit = false
            ∧ (s.link.state = .active → t.link.alarmSlot = some
                { station := s.cfg.station, zone := s.cfg.zone, level := l, testFlag := false, cause := .peer })
            ∧ (isAlarm s.zone.level = false → t.tally.openLot = none ∧ t.store.reservations = []
                ∧ (contactorClosed s.engine.state = true → t.engine.state = .unload))
            ∧ t.store.permit = false
            ∧ OnlyChanges [.zone, .link, .engine, .store, .atm, .tally, .port] s t)
      ∧ (f.testFlag = false → f.level = .prealarm → (∃ n, RealSet s n) → levelRank s.zone.level < 3 →
          ∃ t c, exec (.alarmReceived f) s = .next t ∧ OwnCause s c
            ∧ LevelChanged (confirmedLevel s) false (some c) (.peer f.station (some f.cause)) s t)
      ∧ (f.testFlag = false →
          f.level = .normal ∨ f.level = .prealarm ∧ 3 ≤ levelRank s.zone.level
            ∨ f.level = .alarmUnconfirmed ∧ 2 ≤ levelRank s.zone.level
            ∨ 3 ≤ levelRank f.level ∧ 3 ≤ levelRank s.zone.level →
          exec (.alarmReceived f) s = .next s))
    ∧ (f.zone ≠ s.cfg.zone ∨ (s.peer f.station).recordedZone ≠ some f.zone →
      ∃ t, exec (.alarmReceived f) s = .next t
        ∧ t.peer f.station =
            { s.peer f.station with discards := min ((s.peer f.station).discards + 1) 65535 }
        ∧ (∀ m, m ≠ f.station → t.peer m = s.peer m)
        ∧ t.peers = { s.peers with entries := t.peers.entries } ∧ OnlyChanges [.peers] s t)

/-! ## Handoff frames received -/

/-- The answer to an OFFER addressed here. A repeat of a standing reservation has its GRANT placed again. Else the first
test of R68 that fails, with the grant test of R71 as the last at a CHAMBER, has a REFUSE with its reason placed. An OFFER
that passes has a reservation created at the end of the list for its record, clamped to E_nom, its GRANT placed, its timer
started, and the note records the grant. -/
def Obligations.OfferAnswered : Prop :=
  ∀ (f : OfferFrame) (s : State), Ready s → s.link.attempt = none → handoffOk (.offer f) = true →
    f.head.station ≠ s.cfg.station → f.head.destination = s.cfg.station →
    (∀ r, (s.cfg.role = .bay ∧ r = .role)
        ∨ (s.cfg.role ≠ .bay ∧ (s.peer f.head.station).admission ≠ .admitted ∧ r = .notAdmitted) →
      ∃ t, exec (.offerReceived f) s = .next t
        ∧ t.link = (placeHandoff (.refuse
            { head := headTo s f.head.station f.head.packId f.head.offerNumber, reason := r }) s).link
        ∧ (∀ m, m ≠ f.head.station → t.peer m = s.peer m)
        ∧ ((s.peer f.head.station).admission = .admitted → t.peers = s.peers)
        ∧ ((s.peer f.head.station).admission ≠ .admitted → t.peer f.head.station = { s.peer f.head.station with
              heard := true, silenceTimer := some 3
              discards := min ((s.peer f.head.station).discards + 1) 65535 })
        ∧ OnlyChanges [.link, .peers] s t)
    ∧ (s.cfg.role ≠ .bay → (s.peer f.head.station).admission = .admitted →
      (∀ v, repeatedReservation f.head s = some v →
        exec (.offerReceived f) s = .next (placeHandoff (.grant
          { head := headTo s v.station v.packId v.offerNumber, reservation := v.number }) s))
      ∧ (∀ r, repeatedReservation f.head s = none →
        ((findRecord f.head.packId s ≠ none ∨ findReservation f.head.packId s ≠ none) ∧ r = .duplicate)
          ∨ (findRecord f.head.packId s = none ∧ findReservation f.head.packId s = none
              ∧ ((8 ≤ entriesHeld s ∧ r = .full)
                ∨ (entriesHeld s < 8 ∧ s.zone.level ≠ .normal ∧ r = .alarm)
                ∨ (entriesHeld s < 8 ∧ s.zone.level = .normal ∧ s.cfg.role = .chamber
                    ∧ ((marksAny f.pack.marks = true ∧ r = .quarantine)
                      ∨ (marksAny f.pack.marks = false ∧ atmosphereFeeds s = false ∧ r = .atmosphere)
                      ∨ (marksAny f.pack.marks = false ∧ atmosphereFeeds s = true ∧ r = .budget
                          ∧ effectiveLimit s < min f.pack.eNom (f.pack.residual.getD f.pack.eNom)
                              + heldSum s.store.records + reservedSum s.store.reservations))))) →
        exec (.offerReceived f) s = .next (placeHandoff (.refuse
          { head := headTo s f.head.station f.head.packId f.head.offerNumber, reason := r }) s))
      ∧ (repeatedReservation f.head s = none → findRecord f.head.packId s = none →
        findReservation f.head.packId s = none → entriesHeld s < 8 → s.zone.level = .normal →
        (s.cfg.role = .chamber → marksAny f.pack.marks = false ∧ atmosphereFeeds s = true
          ∧ min f.pack.eNom (f.pack.residual.getD f.pack.eNom) + heldSum s.store.records
              + reservedSum s.store.reservations ≤ effectiveLimit s) →
        ∃ (t : State) (v : Reservation), exec (.offerReceived f) s = .next t
          ∧ v.station = f.head.station ∧ v.packId = f.head.packId ∧ v.offerNumber = f.head.offerNumber
          ∧ v.number = s.store.nextReservation ∧ v.holdTimer = some s.cfg.grantHold
          ∧ v.pack = { f.pack with
              residual := f.pack.residual.map (fun r => min r f.pack.eNom)
              eDecl := f.pack.eDecl.map (fun e => min e f.pack.eNom) }
          ∧ v.energy = (if s.cfg.role = .chamber then min f.pack.eNom (f.pack.residual.getD f.pack.eNom) else 0)
          ∧ StoreIs { s.store with
              reservations := s.store.reservations ++ [v]
              nextReservation := (s.store.nextReservation + 1) % 256
              note := some { packId := f.head.packId, station := f.head.station, outcome := .granted } } t
          ∧ t.link = (placeHandoff (.grant
              { head := headTo s v.station v.packId v.offerNumber, reservation := v.number }) s).link
          ∧ OnlyChanges [.store, .link] s t))

/-- A GRANT or a REFUSE of the station to which a record stands OFFERED under its number. The GRANT puts the record IN
TRANSIT with a transit timer of 120 s and 10 P and a PASSED entry, and clears the station's refusal streak. The REFUSE puts
it READY with its back-off running, and FULL, BUDGET and ATMOSPHERE raise the streak. One that matches nothing is counted,
but for the GRANT of a record already IN TRANSIT. -/
def Obligations.GrantOrRefuseTaken : Prop :=
  ∀ (h : HandoffHead) (s : State), Ready s → s.link.attempt = none → headOk h = true → h.station ≠ s.cfg.station →
    h.destination = s.cfg.station → (s.peer h.station).admission = .admitted →
    (∀ n, fitsBytes 1 n = true → anyMatches h .offered s = true →
      ∃ t, exec (.grantReceived { head := h, reservation := n }) s = .next t
        ∧ StoreIs { s.store with
            records := recordsWith h.packId (fun r => { r with
              state := .inTransit
              offerTimer := none
              transitTimer := some (120000 + 10 * (10 * s.cfg.periodCode))
              data := addHistory s.cfg.station .passed r.data }) s
            note := some { packId := h.packId, station := h.station, outcome := .granted } } t
        ∧ t.peer h.station = { s.peer h.station with streak := 0 }
        ∧ (∀ m, m ≠ h.station → t.peer m = s.peer m) ∧ OnlyChanges [.store, .peers] s t)
    ∧ (∀ n, fitsBytes 1 n = true → anyMatches h .offered s = false →
      exec (.grantReceived { head := h, reservation := n }) s =
        .next (if anyMatches h .inTransit s = true then s
          else { s with store := { s.store with unmatched := min (s.store.unmatched + 1) 65535 } }))
    ∧ (∀ r, anyMatches h .offered s = true →
      ∃ t, exec (.refuseReceived { head := h, reason := r }) s = .next t
        ∧ StoreIs { s.store with
            records := recordsWith h.packId (fun x => { x with
              state := .ready, offerTimer := none, transitTimer := none, backOff := some 10 }) s
            quiet := t.store.quiet
            note := some { packId := h.packId, station := h.station, outcome := .refused r } } t
        ∧ (r = .full ∨ r = .budget ∨ r = .atmosphere →
            t.peer h.station = { s.peer h.station with streak := min ((s.peer h.station).streak + 1) 255 }
              ∧ at1 0 t.store.quiet h.station = 0)
        ∧ (¬(r = .full ∨ r = .budget ∨ r = .atmosphere) → t.peers = s.peers ∧ t.store.quiet = s.store.quiet)
        ∧ (∀ m, m ≠ h.station → t.peer m = s.peer m ∧ at1 0 t.store.quiet m = at1 0 s.store.quiet m)
        ∧ OnlyChanges [.store, .peers] s t)
    ∧ (∀ r, anyMatches h .offered s = false →
      exec (.refuseReceived { head := h, reason := r }) s =
        .next { s with store := { s.store with unmatched := min (s.store.unmatched + 1) 65535 } })

/-- A TAKEN is matched by pack ID alone. A record IN TRANSIT, HALTED or ADRIFT leaves the store, the released counter rises,
the Zone Unit is told of the records, HANDOFF DONE is raised and the note written. A record in any other state gains
DISPUTED, and a CANCEL DISPUTED is placed; where it is FEEDING the feed permit drops with MARK, and else the Atmosphere Unit
stands as it was. One that matches no record is counted. -/
def Obligations.TakenReleasesRecord : Prop :=
  ∀ (f : TakenFrame) (s : State), Ready s → s.link.attempt = none → headOk f.head = true →
    f.head.station ≠ s.cfg.station → f.head.destination = s.cfg.station →
    (s.peer f.head.station).admission = .admitted →
    (∀ r, findRecord f.head.packId s = some r → r.state = .inTransit ∨ r.state = .halted ∨ r.state = .adrift →
      ∃ u, exec (.takenReceived f) s =
          .next (raise .handoffDone (handoffNote f.head.packId f.head.station
            (if f.late then .takenLate else .taken) (zoneTakesStore u)))
        ∧ StoreIs { s.store with records := s.store.records.eraseP (fun r => decide (r.id = f.head.packId)) } u
        ∧ u.tally = { s.tally with released := s.tally.released.bump } ∧ OnlyChanges [.store, .tally] s u)
    ∧ (∀ r, findRecord f.head.packId s = some r → ¬(r.state = .inTransit ∨ r.state = .halted ∨ r.state = .adrift) →
      ∃ t, exec (.takenReceived f) s = .next t
        ∧ StoreIs { s.store with
            records := recordsWith f.head.packId (fun x =>
              { x with data := { x.data with marks := { x.data.marks with disputed := true } } }) s
            note := some { packId := f.head.packId, station := f.head.station, outcome := .dispute } } t
        ∧ t.link = (placeHandoff (.cancel
            { head := headTo s f.head.station f.head.packId f.head.offerNumber, reason := .disputed }) s).link
        ∧ t.port = (raise .dispute s).port
        ∧ t.atm = (if r.state = .feeding then feedDropped .mark s else s.atm)
        ∧ OnlyChanges [.store, .link, .port, .atm] s t)
    ∧ (findRecord f.head.packId s = none →
      exec (.takenReceived f) s =
        .next { s with store := { s.store with unmatched := min (s.store.unmatched + 1) 65535 } })

/-- A CANCEL, by its reason (R79): a matching reservation is removed on ABORT and PEER RESTART; a matching record OFFERED
becomes READY, and one IN TRANSIT HALTED on ALARM and ADRIFT on LAPSED and PEER RESTART; on DISPUTED the record gains the
mark, and where it is FEEDING the feed permit drops with MARK, the Atmosphere Unit standing as it was else. One that finds
nothing its reason acts on (no reservation or record under the station, pack ID and offer number, a record in a state the
reason does not name, only the other of the two) is ignored and counted. -/
def Obligations.CancelTaken : Prop :=
  ∀ (h : HandoffHead) (s : State), Ready s → s.link.attempt = none → headOk h = true → h.station ≠ s.cfg.station →
    h.destination = s.cfg.station → (s.peer h.station).admission = .admitted →
    (∀ v c, repeatedReservation h s = some v → c = .abort ∨ c = .peerRestart →
      ∃ t, exec (.cancelReceived { head := h, reason := c }) s = .next t
        ∧ StoreIs { s.store with
            reservations := s.store.reservations.eraseP (fun x =>
              decide (x.station = h.station ∧ x.packId = h.packId ∧ x.offerNumber = h.offerNumber))
            note := some { packId := h.packId, station := h.station, outcome := .cancelled c } } t
        ∧ OnlyChanges [.store] s t)
    ∧ (∀ c st, ((c = .alarm ∨ c = .lapsed ∨ c = .peerRestart ∧ repeatedReservation h s = none)
            ∧ anyMatches h .offered s = true ∧ anyMatches h .inTransit s = false ∧ st = .ready)
          ∨ (c = .alarm ∧ anyMatches h .offered s = false ∧ anyMatches h .inTransit s = true ∧ st = .halted)
          ∨ ((c = .lapsed ∨ c = .peerRestart ∧ repeatedReservation h s = none)
              ∧ anyMatches h .offered s = false ∧ anyMatches h .inTransit s = true ∧ st = .adrift) →
      ∃ t, exec (.cancelReceived { head := h, reason := c }) s = .next t
        ∧ StoreIs { s.store with
            records := recordsWith h.packId (fun x => { x with
              state := st, offerTimer := none, transitTimer := none }) s
            note := some { packId := h.packId, station := h.station, outcome := .cancelled c } } t
        ∧ t.port = (if st = .adrift then (raise .adrift s).port else s.port)
        ∧ OnlyChanges [.store, .port] s t)
    ∧ (∀ r, findRecord h.packId s = some r →
      ∃ t, exec (.cancelReceived { head := h, reason := .disputed }) s = .next t
        ∧ StoreIs { s.store with
            records := recordsWith h.packId (fun x =>
              { x with data := { x.data with marks := { x.data.marks with disputed := true } } }) s
            note := some { packId := h.packId, station := h.station, outcome := .cancelled .disputed } } t
        ∧ t.port = (raise .dispute s).port
        ∧ t.atm = (if r.state = .feeding then feedDropped .mark s else s.atm)
        ∧ OnlyChanges [.store, .port, .atm] s t)
    ∧ (∀ c, ¬CancelFinds h c s →
      exec (.cancelReceived { head := h, reason := c }) s =
        .next { s with store := { s.store with unmatched := min (s.store.unmatched + 1) 65535 } })

/-! ## Timers of the line -/

/-- A period timer expiry raises the period count, clears the three limits, advances the echo buckets and the hold-off, and
raises the quiet count of every refusal streak. The first two in LISTENING place a JOIN; one in RUNNING places a STATE
built from the state as it stands, under the next sequence number, and examines the records for an offer, whose first send
is made where R63 and R64 allow it. The own STATE is spelled out, with the entries that qualify for its unheard list. -/
def Obligations.PeriodTimerCounts : Prop :=
  (∀ (s : State) (q : List UnheardEntry),
    q = stationNumbers.filterMap (fun n =>
      if (s.peer n).clashFlag = true ∨ (s.peer n).admission = .refused .clash then some { reason := .clash, station := n }
      else if (s.peer n).admission = .admitted ∧ (s.peer n).step = .outOfStep then
        some { reason := if (s.peer n).newestCause = some .silence then .silent else .skipping, station := n }
      else if (s.peer n).admission ≠ .admitted ∧ (s.peer n).heard = true then
        some { reason := .unadmitted, station := n }
      else none) →
    ownState s = {
      station := s.cfg.station
      role := s.cfg.role
      zone := s.cfg.zone
      level := s.zone.level
      periodCode := s.cfg.periodCode
      epoch := s.start.epoch.getD 0
      strict := s.zone.ownStrict
      testFlag := s.zone.testFlag
      supply := if s.cfg.role = .chamber then s.atm.supply else .primary
      healthy := s.bank.healthy
      atmosphere := if s.cfg.role = .chamber then s.atm.state else .opened
      allowance := if s.cfg.role = .chamber then s.store.allowance else 0
      freePlaces := 8 - (s.store.records.length + s.store.reservations.length)
      heldCount := min 255 s.store.records.length
      consumedCount := s.tally.consumed.value % 65536
      openLot := if s.cfg.role = .chamber then (s.tally.openLot.map (fun l => l.number)).getD 0 else 0
      overflow := decide (8 < q.length)
      unheard := q.take 8 })
  ∧ ∀ s : State, Ready s → s.peers.periodTimer = true →
    ∃ t, exec .periodTimerExpiry s = .next t
      ∧ t.peers = { s.peers with
          periodCount := min (s.peers.periodCount + 1) 255
          joinLimit := false
          notHeardLimit := false
          clashListedLimit := false
          echo := 0 :: s.peers.echo.take 7
          holdOff := s.peers.holdOff - 1 }
      ∧ (∀ n, stationOk n = true →
          at1 0 t.store.quiet n = at1 0 s.store.quiet n + (if 0 < (s.peer n).streak then 1 else 0))
      ∧ (s.start.phase = .listening → s.link.state = .active →
          t.store = { s.store with quiet := t.store.quiet }
            ∧ (s.peers.periodCount ≤ 1 → t.link.joinSlot = some (ownJoin s))
            ∧ (2 ≤ s.peers.periodCount → t.link = s.link))
      ∧ (s.start.phase = .running → s.link.state = .active →
          t.link.stateSlot = some { ownState s with sequence := s.link.nextSequence }
            ∧ t.link.nextSequence = (s.link.nextSequence + 1) % 16)
      ∧ (s.start.phase = .running →
          OfferExamined { s with
            peers := t.peers
            store := { s.store with quiet := t.store.quiet }
            link := s.link.withState (ownState s) } t)
      ∧ OnlyChanges [.peers, .link, .store] s t

/-- A silence timer expiry records a MISS by silence for an ADMITTED station, runs the timer on for P, and hands the
station's effective values over; for any other it clears the heard flag and stops the timer, with no handover (log entry
34). The order of the CANCEL frames that a rise places (log entry 48), HEAT for a detector of the kind NONE (31) and the
settle run that a new target leaves (33) are the model's. -/
def Obligations.SilenceRecordsMiss : Prop :=
  ∀ (n : Nat) (s : State), Ready s → stationOk n = true → (s.peer n).silenceTimer ≠ none →
    ((s.peer n).admission = .admitted →
      ∃ t, exec (.silenceTimerExpiry n) s = .next t
        ∧ t.peer n = { s.peer n with
            window := (.miss :: (s.peer n).window).take 8
            newestCause := some .silence
            step := if 3 ≤ ((.miss :: (s.peer n).window).take 8).count .miss then .outOfStep else (s.peer n).step
            silenceTimer := some 2 }
        ∧ PeerHandedOver n { s with peers := t.peers } t
        ∧ (∀ m, m ≠ n → t.peer m = s.peer m) ∧ t.peers = { s.peers with entries := t.peers.entries }
        ∧ OnlyChanges [.peers, .link, .store, .engine, .atm, .zone, .tally, .port] s t)
    ∧ ((s.peer n).admission ≠ .admitted →
      ∃ t, exec (.silenceTimerExpiry n) s = .next t
        ∧ t.peer n = { s.peer n with heard := false, silenceTimer := none }
        ∧ (∀ m, m ≠ n → t.peer m = s.peer m) ∧ t.peers = { s.peers with entries := t.peers.entries }
        ∧ OnlyChanges [.peers] s t)

/-! ## Measurement -/

/-- A burst of 23 whole bytes with the header A5H and a right check waits for the next expiry in place of an older one; any
other burst changes nothing. At a sample timer expiry the waiting set becomes the current one and the missing count 0; with
none waiting the count rises, and at 4 every quantity reads as faulted. The contacts are read, a CHAMBER judges its sensors,
and every channel is evaluated once from its source. Then the Zone Unit, the Atmosphere Unit and, at a BAY, the Discharge
Engine take the filter change and the sample, in this order (log entry 8), the engine by the order of its own steps in R94;
what the expiry makes due follows as commands of their own (log entry 1). The model's are, besides: the last reading of a
sensor kept while none carries a value (log entry 52), the supply note of the cause alone (57), the sample integrated at the
expiry that begins an unload (26), the unused engine at another role (27), the settle timer (32, 33), HEAT for a detector of
the kind NONE (31), the target recomputed for PACK HOT before the unload of a PACK STOP of the same expiry (58), a countdown
that runs on while ABORT pauses it (59), and the order of the CANCEL frames that a rise places (48). -/
def Obligations.SampleSetsTaken : Prop :=
  (∀ (bs : List Byte) (stray : Nat) (s : State), Ready s →
      exec (.sampleSetArrival bs stray) s = .next
        (if bs.length = 23 ∧ stray = 0 ∧ field bs 0 1 = 0xA5 ∧ field bs 21 2 = (frameCheck (bs.take 21)).toNat then
          { s with bank := { s.bank with arrived := some (sampleSetOf bs) } }
        else s))
    ∧ ∀ (contacts : Contacts) (s : State), Ready s → s.bank.sampleTimer = true →
      ∃ u v w x t, exec (.sampleTimerExpiry contacts) s = .next t
        ∧ InputsTaken contacts s u ∧ ChannelsEvaluated u v ∧ ZoneHandedOver v w ∧ AtmosphereHandedOver w x
        ∧ (s.cfg.role ≠ .bay → t = x)
        ∧ (∀ fresh, s.cfg.role = .bay →
            fresh = s.bank.arrived.bind (fun a => a.v.bind (fun vv => a.i.bind (fun ii => a.t.map (fun tt =>
              ({ v := vv, i := ii, t := tt } : Reading))))) →
            EngineExpired s.engine.state (channelOut s 5) (channelOut s 6) fresh x t)
        ∧ t.bank = v.bank
        ∧ t.bank.contacts = contacts ∧ t.bank.arrived = none ∧ t.bank.sampleTimer = true
        ∧ (∀ y, s.bank.arrived = some y → t.bank.current = some y ∧ t.bank.missing = 0)
        ∧ (s.bank.arrived = none → t.bank.missing = min (s.bank.missing + 1) 255
            ∧ t.bank.current = if 3 ≤ s.bank.missing then some {} else s.bank.current)
        ∧ OnlyChanges [.bank, .link, .store, .engine, .atm, .zone, .tally, .port] s t

/-- One evaluation of a filter channel. Of an enabled channel: the count of a run of assertions reaches the A-count to
SET the output and the count of a run without reaches the B-count to CLEAR it, a broken run starts afresh; a count of 0
or 1 turns at the first. A channel that is not enabled follows its input. -/
def Obligations.FilterCounts : Prop :=
  ∀ (c : ChannelSettings) (k : Nat),
    (c.enabled = false → ∀ p, nextPhase c true p = .set ∧ nextPhase c false p = .clear)
    ∧ (c.enabled = true →
      nextPhase c true .set = .set ∧ nextPhase c false .clear = .clear
      ∧ nextPhase c true (.clearing k) = .set ∧ nextPhase c false (.asserting k) = .clear
      ∧ nextPhase c true .clear = (if c.countA ≤ 1 then .set else .asserting 1)
      ∧ nextPhase c true (.asserting k) = (if c.countA ≤ k + 1 then .set else .asserting (k + 1))
      ∧ nextPhase c false .set = (if c.countB ≤ 1 then .clear else .clearing 1)
      ∧ nextPhase c false (.clearing k) = (if c.countB ≤ k + 1 then .clear else .clearing (k + 1)))
    ∧ (c.enabled = true → 1 ≤ c.countA →
        (List.replicate c.countA true).foldl (fun p i => nextPhase c i p) .clear = .set
        ∧ ∀ m, m < c.countA →
          (⟨(List.replicate m true).foldl (fun p i => nextPhase c i p) .clear, false, false, false, false, false⟩ :
            Channel).output = false)
    ∧ (c.enabled = true → 1 ≤ c.countB →
        (List.replicate c.countB false).foldl (fun p i => nextPhase c i p) .set = .clear
        ∧ ∀ m, m < c.countB →
          (⟨(List.replicate m false).foldl (fun p i => nextPhase c i p) .set, false, false, false, false, false⟩ :
            Channel).output = true)

/-! ## The Discharge Engine's steps -/

/-- The ramp step: at the ramp interval the ramp count returns to 0 and the present step, with the load step output, moves
one step toward the target, or in UNLOAD toward 0; a step that moves breaks the settle run and, outside UNLOAD, starts the
settle timer afresh. -/
def Obligations.RampMovesOneStep : Prop :=
  ∀ (s : State) (w : Nat), quietLoss s = true → stepping s.engine.state = true →
    s.cfg.rampInterval ≤ s.engine.rampCount → w = (if s.engine.state = .unload then 0 else s.engine.target) →
    (s.engine.present = w → exec .rampStep s = .next { s with engine := { s.engine with rampCount := 0 } })
    ∧ (∀ k, (s.engine.present < w ∧ k = s.engine.present + 1) ∨ (w < s.engine.present ∧ k + 1 = s.engine.present) →
      exec .rampStep s = .next { s with
        engine := { s.engine with
          present := k
          loadStep := k
          rampCount := 0
          settleRun := 0
          settleTimer := if s.engine.state = .unload then s.engine.settleTimer else some s.cfg.settleTimeout } })

/-- The faults of the engine. A measurement loss, a settle timeout and a rest current fault begin an unload, the first for
MEASUREMENT LOST, the others for LOAD DEVIATION. In UNLOAD a measurement loss only makes the purpose FAULT, unless it is one
already; with the engine off the load it changes nothing else. A stuck load, an unload whose count has passed its bound,
opens the contactor at step 0 and enters ISOLATE for LOAD STUCK with the check timer at 50 samples, and raises DISCHARGE
FAULT. A purpose that meets another gives way by the table of R102. -/
def Obligations.EngineFaultsTaken : Prop :=
  ∀ s : State,
    (s.engine.lossDue = true →
      ((s.engine.state = .connect ∨ s.engine.state = .ramp ∨ s.engine.state = .run ∨ s.engine.state = .rest) →
        exec .measurementLoss s = .next { s with
          engine := { s.engine with lossDue := false }.unloading (.fault .measurementLost) })
      ∧ (∀ p, s.engine.state = .unload → s.engine.purpose = some p →
        exec .measurementLoss s = .next { s with
          engine := { s.engine with
            lossDue := false
            purpose := some (match p with | .fault c => .fault c | _ => .fault .measurementLost) } })
      ∧ ((s.engine.state = .idle ∨ s.engine.state = .done ∨ s.engine.state = .fault ∨ s.engine.state = .isolate) →
        exec .measurementLoss s = .next { s with engine := { s.engine with lossDue := false } }))
    ∧ (quietStuck s = true → (s.engine.state = .ramp ∨ s.engine.state = .run) → s.engine.settleTimer = some 0 →
      exec .settleTimeout s = .next { s with engine := s.engine.unloading (.fault .loadDeviation) })
    ∧ (quietUnload s = true → s.engine.state = .rest → s.cfg.settleCount ≤ s.engine.restRun →
      exec .restCurrentFault s = .next { s with engine := s.engine.unloading (.fault .loadDeviation) })
    ∧ (quietRestCurrent s = true → s.engine.state = .unload →
      63 * s.cfg.rampInterval + s.cfg.settleTimeout < s.engine.unloadCount →
      ∃ t, exec .loadStuck s = .next t
        ∧ t.engine = { s.engine.opened .isolate with
            faultCause := some .loadStuck, purpose := none, checkTimer := some 50 }
        ∧ t.port = (raise .dischargeFault s).port ∧ OnlyChanges [.engine, .port] s t)
    ∧ ∀ (r r' : HandBackReason) (c c' : FaultCause),
        mergePurpose .rest (.handBack r) = .handBack r ∧ mergePurpose .rest (.fault c) = .fault c
        ∧ mergePurpose (.handBack r) (.handBack r') = .handBack r ∧ mergePurpose (.handBack r) (.fault c) = .fault c
        ∧ mergePurpose (.fault c) (.handBack r) = .fault c ∧ mergePurpose (.fault c) (.fault c') = .fault c

/-- The end of an unload, by its purpose: REST opens the rest at step 0 with the contactor closed; HAND-BACK opens the
contactor, hands the record back to HELD, or READY under a forbidding mark, and leaves the engine IDLE; FAULT opens the
contactor and leaves the record bound in FAULT with a FAULTED entry. That the purpose itself stands after the unload is
DEDUCED (log entry 25). -/
def Obligations.UnloadEndsByPurpose : Prop :=
  ∀ s : State, quietRamp s = true → s.engine.state = .unload → s.cfg.settleCount ≤ s.engine.zeroRun →
    (s.engine.purpose = some .rest →
      exec .unloadComplete s = .next { s with
        engine := { s.engine with
          state := .rest
          contactor := true
          present := 0
          loadStep := 0
          restTimer := some (100 * s.cfg.restTime)
          restRun := 0 } })
    ∧ (∀ r id rec, s.engine.purpose = some (.handBack r) → s.engine.bound = some id → findRecord id s = some rec →
      s.cfg.role = .bay →
      ∃ t, exec .unloadComplete s = .next t
        ∧ t.engine = { s.engine.opened .idle with
            bound := none
            faultCause := none
            endNote := some { packId := id, outcome := .handedBack r } }
        ∧ StoreIs { s.store with
            records := recordsWith id (fun x => x.into (if marksForbid rec.data.marks then .ready else .held)) s } t
        ∧ t.port = (raise .dischargeEnd
            (if marksForbid rec.data.marks then raise .recordReady s else s)).port
        ∧ OnlyChanges [.engine, .store, .port] s t)
    ∧ (∀ c id, s.engine.purpose = some (.fault c) → s.engine.bound = some id →
      ∃ t, exec .unloadComplete s = .next t
        ∧ t.engine = { s.engine.opened .fault with
            faultCause := some c
            checkTimer := none
            endNote := some { packId := id, outcome := .faulted c } }
        ∧ StoreIs { s.store with
            records := recordsWith id (·.withData (addHistory s.cfg.station .faulted)) s } t
        ∧ t.port = (raise .dischargeFault s).port ∧ OnlyChanges [.engine, .store, .port] s t)

/-- The contactor check of CONNECT, in its order: a current at or above the zero threshold is LOAD STUCK; a negative voltage
marks POLARITY; a cell voltage outside the curve's range marks VOLTAGE, each leading to FAULT; else RAMP begins with the
target of the commanded current. The check of ISOLATE: a current below the threshold under a status other than LOST leads to
FAULT; anything else is ISOLATION FAILED, which marks the record, sets the latch and raises a level below ALARM CONFIRMED
with the cause ELECTRICAL, a rise that is published and handed on like any other, its CANCEL frames in the order of log
entry 48 (the model's choice). -/
def Obligations.ContactorChecked : Prop :=
  ∀ (s : State) (pid : PackId) (r : PackRecord) (m : Reading), quietRest s = true → s.engine.checkTimer = some 0 →
    s.engine.bound = some pid → findRecord pid s = some r → s.engine.lastValid = some m →
    (∀ (c : FaultCause) (mark : Marks → Marks),
      (s.engine.state = .connect
        ∧ ((s.cfg.zeroThreshold ≤ m.i.natAbs ∧ c = .loadStuck ∧ mark = fun x => x)
          ∨ (m.i.natAbs < s.cfg.zeroThreshold ∧ m.v < 0 ∧ c = .polarity ∧ mark = fun x => { x with polarity := true })
          ∨ (m.i.natAbs < s.cfg.zeroThreshold ∧ 0 ≤ m.v ∧ c = .voltage
              ∧ (cellVoltage m.v r.data.cells < (curveOf s r.data.chemistry).cellMin
                  ∨ (curveOf s r.data.chemistry).cellMax < cellVoltage m.v r.data.cells)
              ∧ mark = fun x => { x with voltage := true })))
        ∨ (s.engine.state = .isolate ∧ s.engine.status ≠ .lost ∧ m.i.natAbs < s.cfg.zeroThreshold ∧ c = .loadStuck
            ∧ mark = fun x => x) →
      ∃ t, exec .contactorCheckExpiry s = .next t
        ∧ t.engine = { s.engine.opened .fault with
            faultCause := some c
            checkTimer := none
            endNote := some { packId := pid, outcome := .faulted c } }
        ∧ StoreIs { s.store with
            records := recordsWith pid (·.withData (fun d =>
              addHistory s.cfg.station .faulted { d with marks := mark d.marks })) s } t
        ∧ t.port = (raise .dischargeFault s).port ∧ OnlyChanges [.engine, .store, .port] s t)
    ∧ (s.engine.state = .connect → m.i.natAbs < s.cfg.zeroThreshold → 0 ≤ m.v →
      (curveOf s r.data.chemistry).cellMin ≤ cellVoltage m.v r.data.cells →
      cellVoltage m.v r.data.cells ≤ (curveOf s r.data.chemistry).cellMax →
      exec .contactorCheckExpiry s = .next { s with
        engine := { s.engine with
          state := .ramp
          contactor := true
          checkTimer := none
          rampCount := 0
          settleRun := 0
          iCmd := commandedCurrent s r.data
          target := targetStep s (commandedCurrent s r.data)
          settleTimer := some s.cfg.settleTimeout } })
    ∧ (s.engine.state = .isolate → s.engine.status = .lost ∨ s.cfg.zeroThreshold ≤ m.i.natAbs →
      ∃ t, exec .contactorCheckExpiry s = .next t
        ∧ t.engine = { s.engine with
            checkTimer := none, endNote := some { packId := pid, outcome := .isolationFailed } }
        ∧ t.zone.isolationLatch = true ∧ 3 ≤ levelRank t.zone.level
        ∧ (levelRank s.zone.level < 3 → t.zone.cause = some .electrical ∧ t.zone.testFlag = false
            ∧ t.zone.level = if s.cfg.suppressionOwned then .countdown else .alarmConfirmed)
        ∧ (3 ≤ levelRank s.zone.level → t.zone = { s.zone with isolationLatch := true })
        ∧ (∃ x, findRecord pid t = some x ∧ x.data =
            addHistory s.cfg.station .faulted { r.data with marks := { r.data.marks with isolation := true } })
        ∧ (∃ u v, u.zone = { s.zone with isolationLatch := true } ∧ u.engine = { s.engine with checkTimer := none }
            ∧ StoreIs { s.store with
                records := recordsWith pid (·.withData (fun d => addHistory s.cfg.station .faulted
                  { d with marks := { d.marks with isolation := true } })) s } u
            ∧ OnlyChanges [.zone, .engine, .store] s u
            ∧ (levelRank s.zone.level < 3 → LevelChanged (confirmedLevel s) false (some .electrical) .own u v)
            ∧ (3 ≤ levelRank s.zone.level → v = u)
            ∧ t = raise .dischargeFault { v with
                engine := { v.engine with endNote := some { packId := pid, outcome := .isolationFailed } } })
        ∧ OnlyChanges [.engine, .zone, .link, .store, .atm, .tally, .port] s t)

/-- The commanded current is the least of I_bay, the record's I_pack, the cap of its damage grade, and half of I_bay while
PACK HOT is SET or the level is PREALARM; the target step is the whole number of step currents in it, at most 63, and at
least 1 for an eligible record where the step current is at most half of I_bay. -/
def Obligations.TargetCurrentIsLeastCap : Prop :=
  ∀ (s : State) (p : PackData),
    (∀ c, c ∈ [s.cfg.iBay, p.iPack, damageCap p.grade s.cfg.iBay] → commandedCurrent s p ≤ c)
    ∧ (channelOut s 5 = true ∨ s.zone.level = .prealarm → commandedCurrent s p ≤ s.cfg.iBay / 2)
    ∧ commandedCurrent s p ∈ [s.cfg.iBay, p.iPack, damageCap p.grade s.cfg.iBay, s.cfg.iBay / 2]
    ∧ (channelOut s 5 = false → s.zone.level ≠ .prealarm →
        commandedCurrent s p = min s.cfg.iBay (min p.iPack (damageCap p.grade s.cfg.iBay)))
    ∧ (p.grade = 1 → damageCap p.grade s.cfg.iBay = 3 * s.cfg.iBay / 4)
    ∧ (p.grade = 2 → damageCap p.grade s.cfg.iBay = s.cfg.iBay / 2)
    ∧ (p.grade = 0 → damageCap p.grade s.cfg.iBay = s.cfg.iBay)
    ∧ (∀ i, targetStep s i ≤ 63 ∧ targetStep s i * s.cfg.stepCurrent ≤ i
        ∧ (0 < s.cfg.stepCurrent → targetStep s i < 63 → i < (targetStep s i + 1) * s.cfg.stepCurrent))
    ∧ targetStep s (commandedCurrent s p) ≤ min s.cfg.iBay p.iPack / s.cfg.stepCurrent
    ∧ (0 < s.cfg.stepCurrent → s.cfg.stepCurrent ≤ s.cfg.iBay / 2 → s.cfg.stepCurrent ≤ p.iPack →
        1 ≤ targetStep s (commandedCurrent s p))

/-- The end of a rest: the residual and its basis are computed from the last valid V and written, with the computation
note; from a V below 0 nothing is
written but the note, and the test fails. A release test that passes makes the record READY with a DISCHARGED entry, adds its discharged energy to the total
and leaves the engine IDLE; one that fails begins another round, and after the fourth round marks the record STUBBORN and
leaves it bound in FAULT. -/
def Obligations.RestEndsByReleaseTest : Prop :=
  ∀ (s : State) (pid : PackId) (r : PackRecord) (m : Reading), quietSettle s = true →
    s.engine.state = .rest → s.engine.restTimer = some 0 → s.engine.bound = some pid → findRecord pid s = some r →
    s.engine.lastValid = some m →
    (∀ f, 0 ≤ m.v → f = computeFigures s m.v r.data → ∃ t, exec .restTimerExpiry s = .next t
      ∧ t.residual = some { packId := pid, v := m.v, figures := some f }
      ∧ OnlyChanges [.engine, .store, .residual, .tally, .port] s t
      ∧ (f.outcome = .pass →
        t.engine = { s.engine.opened .idle with
            bound := none, faultCause := none, restTimer := none
            endNote := some { packId := pid, outcome := .done } }
        ∧ StoreIs { s.store with
            records := recordsWith pid (fun x => (x.into .ready).withData (fun d =>
              addHistory s.cfg.station .discharged { d with residual := some f.residual, basis := f.basis })) s } t
        ∧ t.tally = { s.tally with discharged := addTotal s.tally.discharged r.data.eDis }
        ∧ t.port = (raise .dischargeEnd (raise .recordReady s)).port)
      ∧ (f.outcome ≠ .pass → r.data.rounds < 3 →
        t.engine = { s.engine with
            state := .ramp, contactor := true, restTimer := none, rampCount := 0, settleRun := 0
            iCmd := commandedCurrent s r.data
            target := targetStep s (commandedCurrent s r.data)
            settleTimer := some s.cfg.settleTimeout }
        ∧ StoreIs { s.store with
            records := recordsWith pid (·.withData (fun d =>
              { d with residual := some f.residual, basis := f.basis, rounds := d.rounds + 1 })) s } t
        ∧ t.tally = s.tally ∧ t.port = s.port)
      ∧ (f.outcome ≠ .pass → 3 ≤ r.data.rounds →
        t.engine = { s.engine.opened .fault with
            faultCause := some .stubborn, checkTimer := none, restTimer := none
            endNote := some { packId := pid, outcome := .faulted .stubborn } }
        ∧ StoreIs { s.store with
            records := recordsWith pid (·.withData (fun d =>
              addHistory s.cfg.station .faulted { d with
                residual := some f.residual
                basis := f.basis
                rounds := d.rounds + 1
                marks := { d.marks with stubborn := true } })) s } t
        ∧ t.tally = s.tally ∧ t.port = (raise .dischargeFault s).port))
    ∧ (m.v < 0 → ∃ t, exec .restTimerExpiry s = .next t
      ∧ t.residual = some { packId := pid, v := m.v, figures := none }
      ∧ OnlyChanges [.engine, .store, .residual, .port] s t
      ∧ (r.data.rounds < 3 → t.engine.state = .ramp ∧ t.engine.contactor = true ∧ t.port = s.port
        ∧ StoreIs { s.store with
            records := recordsWith pid (·.withData (fun d => { d with rounds := d.rounds + 1 })) s } t)
      ∧ (3 ≤ r.data.rounds → t.engine.state = .fault ∧ t.engine.contactor = false
        ∧ t.engine.faultCause = some .stubborn ∧ t.port = (raise .dischargeFault s).port
        ∧ StoreIs { s.store with
            records := recordsWith pid (·.withData (fun d =>
              addHistory s.cfg.station .faulted { d with
                rounds := d.rounds + 1, marks := { d.marks with stubborn := true } })) s } t))

/-! ## Residual energy -/

/-- The per-cell voltage, the fraction of the curve, the two estimates, the residual and the release test, as the rules
define them: the cell voltage rounded down and at most 65535; the curve's fraction at or below its first knot that knot's,
at or above its last that knot's, and between two knots the line through them rounded up; E_v rounded up; E_c the declared
less the discharged energy and absent where no energy was declared; the residual the larger of the two, COUNTED only where
E_c is the greater; PASS only where both limits are met. A computation composes them: from the cell count of the record, the
curve of its chemistry and its nominal energy; on a curve that rises its fraction lies between those of the first and the
last knot, and with no fraction above 1000 and no declared energy above the nominal the residual is at most the nominal
energy. -/
def Obligations.ResidualArithmetic : Prop :=
  (∀ (v : Int) (n : Nat), 0 ≤ v → 1 ≤ n →
      cellVoltage v n ≤ 65535 ∧ (cellVoltage v n : Int) * n ≤ v * 10
        ∧ (cellVoltage v n < 65535 → v * 10 < ((cellVoltage v n : Int) + 1) * n))
    ∧ (∀ (knots : List (Nat × Nat)) (a : Nat × Nat) (vc : Nat), knots.head? = some a → vc ≤ a.1 →
        curveFraction knots vc = (.belowFirst, a.2))
    ∧ (∀ (knots : List (Nat × Nat)) (a b : Nat × Nat) (vc : Nat), knots.head? = some a → knots.getLast? = some b →
        a.1 < vc → b.1 ≤ vc → curveFraction knots vc = (.aboveLast, b.2))
    ∧ (∀ (pre post : List (Nat × Nat)) (a b : Nat × Nat) (vc : Nat),
        knotsRise (pre ++ a :: b :: post) = true → a.1 < vc ∨ (a.1 = vc ∧ pre ≠ []) → vc < b.1 →
        ∃ f, curveFraction (pre ++ a :: b :: post) vc = (.index pre.length, a.2 + f)
          ∧ (b.2 - a.2) * (vc - a.1) ≤ f * (b.1 - a.1)
          ∧ (0 < f → (f - 1) * (b.1 - a.1) < (b.2 - a.2) * (vc - a.1)))
    ∧ (∀ e f : Nat, e * f ≤ voltageEstimate e f * 1000
        ∧ (0 < voltageEstimate e f → (voltageEstimate e f - 1) * 1000 < e * f)
        ∧ (f ≤ 1000 → voltageEstimate e f ≤ e) ∧ voltageEstimate e 0 = 0)
    ∧ (∀ p : PackData, countedEstimate p = p.eDecl.map (fun e => if p.eDis ≤ e then e - p.eDis else 0))
    ∧ (∀ eV c : Nat, residualOf eV none = (eV, .voltage)
        ∧ residualOf eV (some c) = if eV < c then (c, .counted) else (eV, .voltage))
    ∧ (∀ (s : State) (r vc : Nat),
        releaseTest s r vc = .pass ↔ r ≤ s.cfg.releaseLimit ∧ vc ≤ s.cfg.releaseCellVoltage)
    ∧ ∀ (s : State) (v : Int) (p : PackData) (c : Curve) (f : Computation), 0 ≤ v →
        s.cfg.curves[p.chemistry]? = some c → f = computeFigures s v p →
        f.cellVoltage = cellVoltage v p.cells
          ∧ (f.segment, f.fraction) = curveFraction c.knots f.cellVoltage
          ∧ f.eV = voltageEstimate p.eNom f.fraction
          ∧ f.eC = countedEstimate p
          ∧ (f.residual, f.basis) = residualOf f.eV f.eC
          ∧ f.outcome = releaseTest s f.residual f.cellVoltage
          ∧ (knotsRise c.knots = true → (∀ x ∈ c.knots, x.2 ≤ 1000) →
              (∀ a b, c.knots.head? = some a → c.knots.getLast? = some b → a.2 ≤ f.fraction ∧ f.fraction ≤ b.2)
              ∧ ((∀ e, p.eDecl = some e → e ≤ p.eNom) → f.residual ≤ p.eNom))

/-- The integration of one sample: the discharged energy in microjoules rises by exactly V × I, carried exactly between
joules and the remainder, until it passes 4,294,967,295 J, where it stays at that value with the remainder 999,999. -/
def Obligations.IntegrationIsExact : Prop :=
  ∀ (uj : Nat) (p : PackData), p.eDis ≤ 4294967295 → p.eDisRem ≤ 999999 →
    (integrate uj p).eDis ≤ 4294967295 ∧ (integrate uj p).eDisRem ≤ 999999
      ∧ (p.eDis * 1000000 + p.eDisRem + uj < 4294967296 * 1000000 →
          (integrate uj p).eDis * 1000000 + (integrate uj p).eDisRem = p.eDis * 1000000 + p.eDisRem + uj)
      ∧ (4294967296 * 1000000 ≤ p.eDis * 1000000 + p.eDisRem + uj →
          (integrate uj p).eDis = 4294967295 ∧ (integrate uj p).eDisRem = 999999)
      ∧ (integrate uj p) = { p with eDis := (integrate uj p).eDis, eDisRem := (integrate uj p).eDisRem }

/-! ## Timers of the Pack Store, the chamber and the zone -/

/-- The timers of the Pack Store. An offer timer expiry places the OFFER again up to the third send, and at the third makes
the record READY, raises the destination's refusal streak, writes the note and raises NO REPLY. A back-off expiry ends the
back-off. A transit timer expiry makes the record ADRIFT. A grant hold expiry removes the reservation and places a CANCEL
LAPSED. -/
def Obligations.StoreTimersExpire : Prop :=
  ∀ (id : PackId) (s : State), Ready s →
    (∀ r n, findRecord id s = some r → r.state = .offered → r.offerTimer.isSome = true → r.destination = some n →
      stationOk n = true →
      (r.sendCount < 3 →
        ∃ t, exec (.offerTimerExpiry id) s = .next t
          ∧ StoreIs { s.store with
              records := recordsWith id (fun x => { x with
                sendCount := x.sendCount + 1, offerTimer := some 4 }) s } t
          ∧ t.link = (placeHandoff (.offer { head := headTo s n id (r.offerNumber.getD 0), pack := r.data }) s).link
          ∧ OnlyChanges [.store, .link] s t)
      ∧ (3 ≤ r.sendCount →
        ∃ t, exec (.offerTimerExpiry id) s = .next t
          ∧ StoreIs { s.store with
              records := recordsWith id (·.into .ready) s
              quiet := set1 s.store.quiet n 0
              note := some { packId := id, station := n, outcome := .noReply } } t
          ∧ t.peer n = { s.peer n with streak := min ((s.peer n).streak + 1) 255 }
          ∧ (∀ m, m ≠ n → t.peer m = s.peer m)
          ∧ t.port = (raise .noReply s).port ∧ OnlyChanges [.store, .peers, .port] s t))
    ∧ (∀ r, findRecord id s = some r → r.backOff.isSome = true →
      ∃ t, exec (.backOffExpiry id) s = .next t
        ∧ StoreIs { s.store with records := recordsWith id (fun x => { x with backOff := none }) s } t
        ∧ OnlyChanges [.store] s t)
    ∧ (∀ r, findRecord id s = some r → r.state = .inTransit → r.transitTimer.isSome = true →
      ∃ t, exec (.transitTimerExpiry id) s = .next t
        ∧ StoreIs { s.store with
            records := recordsWith id (·.into .adrift) s
            note := some { packId := id, station := r.destination.getD 0, outcome := .lapsed } } t
        ∧ t.port = (raise .adrift s).port ∧ OnlyChanges [.store, .port] s t)
    ∧ (∀ v, findReservation id s = some v → v.holdTimer.isSome = true →
      ∃ t, exec (.grantHoldExpiry id) s = .next t
        ∧ StoreIs { s.store with
            reservations := s.store.reservations.eraseP (fun x =>
              decide (x.station = v.station ∧ x.packId = id ∧ x.offerNumber = v.offerNumber))
            note := some { packId := id, station := v.station, outcome := .lapsed } } t
        ∧ t.link = (placeHandoff (.cancel
            { head := headTo s v.station id v.offerNumber, reason := .lapsed }) s).link
        ∧ OnlyChanges [.store, .link] s t)

/-- PURGE at a CHAMBER in OPEN or TRIP, with the door closed and not both supplies low, begins PURGING at attempt 1 with
the purge timer running; it is turned away in the other cases, in the order of R131. A purge timer expiry in PURGING begins
another attempt while fewer than three were made, and the third ends in TRIP with PURGE FAILED. A permit that drops is
noted for the record FEEDING. -/
def Obligations.PurgeAttempts : Prop :=
  ∀ s : State, Ready s →
    (∀ tag, s.cfg.role = .chamber → s.atm.state = .opened ∨ s.atm.state = .trip → channelOut s 7 = true →
      bothSuppliesLow s = false →
      ∃ t, exec (.purge tag) s = .next (replyDone tag [] t)
        ∧ t.atm = { s.atm with
            state := .purging
            purgeValve := true
            makeUpValve := true
            boost := false
            attempts := 1
            purgeTimer := some s.cfg.purgeMax
            tripCause := .none
            feedPermit := false
            feedNote := (feedDropped .atmosphere s).feedNote
            note := some { state := .purging, cause := .purgeRequested } }
        ∧ StoreIs s.store t ∧ t.port = (raise .atmosphereChange s).port ∧ OnlyChanges [.atm, .store, .port] s t)
    ∧ (∀ tag r, (s.cfg.role ≠ .chamber ∧ r = .role)
          ∨ (s.cfg.role = .chamber ∧ (s.atm.state = .inert ∨ s.atm.state = .watch) ∧ r = .active)
          ∨ (s.cfg.role = .chamber ∧ (s.atm.state = .opened ∨ s.atm.state = .trip)
              ∧ ((channelOut s 7 = false ∧ r = .door)
                ∨ (channelOut s 7 = true ∧ bothSuppliesLow s = true ∧ r = .supply))) →
      exec (.purge tag) s = .next (replyRefused tag r s))
    ∧ (∀ tag, s.cfg.role = .chamber → s.atm.state = .purging → exec (.purge tag) s = .next (replyBusy tag s))
    ∧ (s.atm.state = .purging → s.atm.purgeTimer.isSome = true → s.atm.attempts < 3 →
      ∃ t, exec .purgeTimerExpiry s = .next t
        ∧ t.atm = { s.atm with
            attempts := s.atm.attempts + 1
            purgeTimer := some s.cfg.purgeMax
            note := some { state := .purging, cause := .purgeSlow } }
        ∧ t.port = (raise .atmosphereChange s).port ∧ OnlyChanges [.atm, .port] s t)
    ∧ (s.atm.state = .purging → s.atm.purgeTimer.isSome = true → 3 ≤ s.atm.attempts →
      ∃ t, exec .purgeTimerExpiry s = .next t ∧ Tripped .purgeFailed s t
        ∧ t.atm.state = .trip ∧ t.atm.tripCause = .purgeFailed ∧ t.atm.purgeTimer = none
        ∧ t.atm.purgeValve = false ∧ t.atm.makeUpValve = false ∧ t.atm.boost = false ∧ t.atm.feedPermit = false
        ∧ t.atm.note = some { state := .trip, cause := .trip .purgeFailed } ∧ t.tally.openLot = none
        ∧ StoreIs s.store t ∧ OnlyChanges [.atm, .store, .tally, .port] s t)

/-- The end of the countdown makes the level RELEASED and asserts suppression; the cause stands, and the level is published,
with HEAT in the frame where no cause stands (log entry 31), and noted with the origin OWN (log entry 53); an asserted feed
permit drops with ZONE. -/
def Obligations.CountdownReleases : Prop :=
  ∀ s : State, quietCheck s = true → s.zone.level = .countdown → s.zone.endDue = true →
    ∃ t, exec .countdownEnd s = .next t
      ∧ t.zone = { s.zone with
          level := .released
          testFlag := false
          countdown := false
          endDue := false
          suppression := true
          note := some { level := .released, testFlag := false, cause := s.zone.cause, origin := .own } }
      ∧ (s.link.state = .active → t.link.alarmSlot = some
          { station := s.cfg.station, zone := s.cfg.zone, level := .released, testFlag := false
            cause := s.zone.cause.getD .heat })
      ∧ t.atm = feedDropped .zone s ∧ t.engine = s.engine ∧ t.tally = s.tally ∧ StoreIs s.store t
      ∧ t.port = (raise .zoneChange s).port ∧ OnlyChanges [.zone, .link, .store, .atm, .port] s t

/-! ## The station port -/

/-- What forming a reply does (R188): it becomes the pending reply; one that replaces an unread reply carries the overrun
flag and is counted, and the re-change markers clear. What raising an event does (R191, R194): its count rises by 1, to at
most 255, and the attention output is asserted exactly while some unmasked kind is pending. What placing a handoff frame
does (R15, R7): it joins the queue at its tail while fewer than 8 are held, is dropped and counted where 8 are, and is
discarded in CLASHED. -/
def Obligations.RepliesAndEvents : Prop :=
  (∀ (r : Reply) (s : State),
      (s.port.pendingReply = none → formReply r s =
        { s with port := { s.port with pendingReply := some { r with overrun := false } } })
      ∧ (∀ q, s.port.pendingReply = some q → formReply r s =
        { s with
          port := { s.port with
            pendingReply := some { r with overrun := true }
            overruns := min (s.port.overruns + 1) 255
            reChange := Vector.replicate 16 false } }))
    ∧ (∀ (k : EventKind) (s : State), OnlyChanges [.port] s (raise k s)
      ∧ at1 0 (raise k s).port.counts (kindNumber k) = min (at1 0 s.port.counts (kindNumber k) + 1) 255
      ∧ (∀ n, n ≠ kindNumber k → at1 0 (raise k s).port.counts n = at1 0 s.port.counts n)
      ∧ ((raise k s).port.attention = true ↔
          ∃ n, 1 ≤ n ∧ n ≤ 16 ∧ 0 < at1 0 (raise k s).port.counts n ∧ at1 false s.port.kindMasks n = false)
      ∧ (raise k s).port = { s.port with
          counts := (raise k s).port.counts, attention := (raise k s).port.attention })
    ∧ ∀ (f : HandoffFrame) (s : State),
      (s.link.state = .active → s.link.queue.length < 8 →
        placeHandoff f s = { s with link := { s.link with queue := s.link.queue ++ [f] } })
      ∧ (s.link.state = .active → 8 ≤ s.link.queue.length →
        placeHandoff f s = { s with link := { s.link with
          handoffOverruns := min (s.link.handoffOverruns + 1) 65535 } })
      ∧ (s.link.state = .clashed → placeHandoff f s = s)

/-- The transfers that carry no good request. A bad envelope is answered BAD with the first of LENGTH, SUM and CODE that
fails, under the tag clocked in; one that carries no request changes nothing. A transfer puts the copy of the pending
reply on SDO, or the NONE envelope, and bytes of all ones after it; it reads the reply where it reaches the copy's end, and
the reading of a READ EVENTS reply clears what it returned. The copy stands as the pending reply does at the command (log
entry 29). -/
def Obligations.TransfersAnswered : Prop :=
  ∀ s : State, noneDue s = true →
    (∀ (bs : List Byte) (tag : Byte), tag = bs.getD 2 0 →
      ((judgeEnvelope bs = .length → exec (.badEnvelope bs) s = .next (replyBad tag .length s))
        ∧ (judgeEnvelope bs = .sum → exec (.badEnvelope bs) s = .next (replyBad tag .sum s))
        ∧ (judgeEnvelope bs = .code → exec (.badEnvelope bs) s = .next (replyBad tag .code s))
        ∧ (judgeEnvelope bs = .nothing → exec (.badEnvelope bs) s = .next s)))
    ∧ (∀ n : Nat, ∃ t, exec (.replyRead n) s = .next t
        ∧ t.port.clockedOut =
            (replyCopy s.port).take n ++ List.replicate (n - (replyCopy s.port).length) 0xFF
        ∧ OnlyChanges [.port, .bank] s t
        ∧ (s.port.pendingReply = none ∨ n < (replyCopy s.port).length →
            t = { s with port := { s.port with clockedOut := t.port.clockedOut } })
        ∧ (∀ r, s.port.pendingReply = some r → (replyCopy s.port).length ≤ n →
            t.port.pendingReply = none ∧ t.port.kindMasks = s.port.kindMasks
            ∧ t.port.channelMasks = s.port.channelMasks
            ∧ (r.returned = none → t.bank = s.bank ∧ t.port.counts = s.port.counts
                ∧ t.port.overruns = s.port.overruns ∧ t.port.attention = s.port.attention)
            ∧ (∀ x, r.returned = some x →
                t.port.overruns = s.port.overruns - x.overruns
                ∧ (∀ k, 1 ≤ k → k ≤ 16 →
                    at1 0 t.port.counts k = at1 0 s.port.counts k - at1 0 x.counts k
                    ∧ (channelAt t k).flag = ((channelAt s k).flag
                        && !(at1 false x.flags k && !at1 false s.port.reChange k))
                    ∧ (channelAt t k).phase = (channelAt s k).phase)
                ∧ t.port.attention = attentionOf t.port.counts s.port.kindMasks)))

/-! ## Requests of the station controller -/

/-- TEST FRAME sets the test frame request, or is refused CLASHED; TEST CHANNEL and TEST DETECTOR give the reply of the
first case of R52 that applies, and set the force request only where none does (a fault refuses it for detectors 1 to 4
alone, log entry 46); SET MASK replaces both masks and forms the attention output afresh. -/
def Obligations.TestsAndMasks : Prop :=
  ∀ (tag : Byte) (s : State), Ready s →
    (s.link.state = .active → exec (.testFrame tag) s =
      .next (replyDone tag [] { s with link := { s.link with testRequest := true } }))
    ∧ (s.link.state = .clashed → exec (.testFrame tag) s = .next (replyRefused tag .clashed s))
    ∧ (∀ (n : Byte) (c : Instr), c = .testChannel tag n ∨ (c = .testDetector tag n ∧ n.toNat ≤ 4) →
      ((n.toNat = 0 ∨ 16 < n.toNat) → exec c s = .next (replyBad tag .parameter s))
      ∧ (1 ≤ n.toNat → n.toNat ≤ 16 → exec c s = .next
          (if channelOut s 9 = false then replyRefused tag .key s
           else if n.toNat ∈ [7, 8, 9, 10] then replyRefused tag .notTestable s
           else if channelUsed s.cfg.role n.toNat = false then replyRefused tag .role s
           else if n.toNat ≤ 4 ∧ (detectorKind s n.toNat = .absent ∨ at1 false s.bank.detectorFault n.toNat = true) then
             replyRefused tag .fault s
           else if (channelAt s n.toNat).force = true then replyDone tag [] s
           else if channelOut s n.toNat = true then replyRefused tag .active s
           else replyDone tag [] { s with
             bank := { s.bank with
               channels := set1 s.bank.channels n.toNat { channelAt s n.toNat with force := true } } })))
    ∧ (∀ n : Byte, 4 < n.toNat → exec (.testDetector tag n) s = .next (replyBad tag .parameter s))
    ∧ (∀ kinds channels : BitVec 16, ∃ t, exec (.setMask tag kinds channels) s = .next (replyDone tag [] t)
        ∧ (∀ k : Nat, 1 ≤ k → k ≤ 16 → at1 false t.port.kindMasks k = kinds.getLsbD (16 - k)
            ∧ at1 false t.port.channelMasks k = channels.getLsbD (16 - k))
        ∧ t.port = { s.port with
            kindMasks := t.port.kindMasks
            channelMasks := t.port.channelMasks
            attention := attentionOf s.port.counts t.port.kindMasks }
        ∧ OnlyChanges [.port] s t)

/-- SET ADMISSION under a set KEY takes one of the three modes; LISTED and CLOSED refuse every ADMITTED entry whose recorded
ID is not on the allow list NOT LISTED and keep every other entry, and OPEN examines nothing. Each refusal ends the
exchanges with the station, raises PEER CHANGE and is handed over; the entries are examined in rising station order (log
entry 50), the exchanges of each ending before its handover (log entry 51). Another mode is BAD, which is answered before
the KEY (log entry 17), and a CLEAR KEY refuses the request. The order of the CANCEL frames that an ending of exchanges or a
rise places (log entry 48), HEAT for a detector of the kind NONE (31) and the settle run that a new target leaves (33) are
the model's. -/
def Obligations.AdmissionModeTaken : Prop :=
  ∀ (tag mode : Byte) (s : State), Ready s →
    (3 ≤ mode.toNat → exec (.setAdmission tag mode) s = .next (replyBad tag .parameter s))
    ∧ (mode.toNat < 3 → channelOut s 9 = false → exec (.setAdmission tag mode) s = .next (replyRefused tag .key s))
    ∧ (mode.toNat = 0 → channelOut s 9 = true → exec (.setAdmission tag mode) s =
        .next (replyDone tag [] { s with peers := { s.peers with mode := .opened } }))
    ∧ (∀ m, mode.toNat = 1 ∧ m = .listed ∨ mode.toNat = 2 ∧ m = .closed → channelOut s 9 = true →
      ∃ t, exec (.setAdmission tag mode) s = .next (replyDone tag [] t)
        ∧ AllExamined stationNumbers { s with peers := { s.peers with mode := m } } t
        ∧ t.peers = { s.peers with mode := m, entries := t.peers.entries, note := t.peers.note }
        ∧ (∀ n, stationOk n = true → t.peer n =
            (if (s.peer n).admission = .admitted ∧ ¬∃ id ∈ s.cfg.allowList, (s.peer n).recordedId = some id then
              { s.peer n with
                admission := .refused .notListed
                step := .seeking
                window := []
                newestCause := none
                lastSequence := none
                published := none
                silenceTimer := none
                heard := false }
             else s.peer n))
        ∧ OnlyChanges [.peers, .link, .store, .engine, .atm, .zone, .tally, .port] s t)

/-- ADMIT PACK: the cases of R60 in order, and the record it creates: its parameters with the declared energy clamped to
E_nom and I_pack to 40,000, DAMAGED at grade 3, an ADMITTED entry, HELD, or READY at grade 3; the admitted counter rises and
the Zone Unit is told of the records. Under a presence byte of 0 the bytes of the declared energy are not looked at, the
model's choice (log entry 56). -/
def Obligations.PackAdmitted : Prop :=
  ∀ (tag : Byte) (p : AdmitParams) (s : State), Ready s →
    (s.cfg.role ≠ .bay → exec (.admitPack tag p) s = .next (replyRefused tag .role s))
    ∧ (s.cfg.role = .bay → admitOk p s = false → exec (.admitPack tag p) s = .next (replyBad tag .parameter s))
    ∧ (s.cfg.role = .bay → admitOk p s = true →
      findRecord p.packId s ≠ none ∨ findReservation p.packId s ≠ none →
      exec (.admitPack tag p) s = .next (replyRefused tag .duplicate s))
    ∧ (s.cfg.role = .bay → admitOk p s = true → findRecord p.packId s = none → findReservation p.packId s = none →
      8 ≤ entriesHeld s → exec (.admitPack tag p) s = .next (replyRefused tag .full s))
    ∧ (s.cfg.role = .bay → admitOk p s = true → findRecord p.packId s = none → findReservation p.packId s = none →
      entriesHeld s < 8 →
      ∃ (u : State) (r : PackRecord), exec (.admitPack tag p) s = .next (formReply
          { code := .done
            tag := tag
            reason := if p.eDeclPresence.toNat = 1 ∧ p.eNom.toNat < p.eDecl.toNat ∨ 40000 < p.iPack.toNat
              then .clamped else .none }
          (zoneTakesStore u))
        ∧ r.id = p.packId ∧ r.state = (if p.grade.toNat = 3 then .ready else .held)
        ∧ r.data =
            { chemistry := p.chemistry.toNat
              cells := p.cells.toNat
              eNom := p.eNom.toNat
              eDecl := if p.eDeclPresence.toNat = 1 then some (min p.eDecl.toNat p.eNom.toNat) else none
              iPack := min 40000 p.iPack.toNat
              grade := p.grade.toNat
              marks := { damaged := decide (p.grade.toNat = 3) }
              history := [{ station := s.cfg.station, outcome := .admitted }] }
        ∧ r.offerNumber = none ∧ r.destination = none ∧ r.offerTimer = none ∧ r.backOff = none
        ∧ r.transitTimer = none
        ∧ StoreIs { s.store with records := s.store.records ++ [r] } u
        ∧ u.tally = { s.tally with admitted := s.tally.admitted.bump }
        ∧ u.port = (if p.grade.toNat = 3 then (raise .recordReady s).port else s.port)
        ∧ OnlyChanges [.store, .tally, .port] s u)

/-- FORWARD, HOLD, RECOVER and REMOVE, each by the state of the record: FORWARD takes a HELD record of a PASS to READY,
HOLD a READY one back to HELD with its back-off ended, RECOVER a HALTED or ADRIFT one to READY, and REMOVE one that is
HELD, READY, HALTED or ADRIFT out of the store. What is already so is answered DONE, any other state BUSY, and a pack that
is not held UNKNOWN. -/
def Obligations.RecordRequests : Prop :=
  ∀ (tag : Byte) (id : PackId) (s : State), Ready s →
    (s.cfg.role ≠ .pass → exec (.forward tag id) s = .next (replyRefused tag .role s)
      ∧ exec (.hold tag id) s = .next (replyRefused tag .role s))
    ∧ (findRecord id s = none →
      (s.cfg.role = .pass → exec (.forward tag id) s = .next (replyRefused tag .unknown s)
        ∧ exec (.hold tag id) s = .next (replyRefused tag .unknown s))
      ∧ exec (.recover tag id) s = .next (replyRefused tag .unknown s)
      ∧ exec (.remove tag id) s = .next
          (if (findReservation id s).isSome then replyBusy tag s else replyRefused tag .unknown s))
    ∧ (∀ r c, findRecord id s = some r →
      (s.cfg.role = .pass ∧ r.state = .held ∧ c = .forward tag id)
        ∨ ((r.state = .halted ∨ r.state = .adrift) ∧ c = .recover tag id) →
      ∃ t, exec c s = .next (replyDone tag [] t)
        ∧ StoreIs { s.store with records := recordsWith id (·.into .ready) s } t
        ∧ t.port = (raise .recordReady s).port ∧ OnlyChanges [.store, .port] s t)
    ∧ (∀ r, findRecord id s = some r → s.cfg.role = .pass → r.state = .ready →
      exec (.forward tag id) s = .next (replyDone tag [] s)
      ∧ ∃ t, exec (.hold tag id) s = .next (replyDone tag [] t)
        ∧ StoreIs { s.store with
            records := recordsWith id (fun x => { x.into .held with backOff := none }) s } t
        ∧ OnlyChanges [.store] s t)
    ∧ (∀ r, findRecord id s = some r → s.cfg.role = .pass → r.state = .held →
      exec (.hold tag id) s = .next (replyDone tag [] s))
    ∧ (∀ r, findRecord id s = some r → s.cfg.role = .pass → r.state ≠ .held → r.state ≠ .ready →
      exec (.forward tag id) s = .next (replyBusy tag s) ∧ exec (.hold tag id) s = .next (replyBusy tag s))
    ∧ (∀ r, findRecord id s = some r → r.state ≠ .halted → r.state ≠ .adrift →
      exec (.recover tag id) s = .next (replyBusy tag s))
    ∧ (∀ r, findRecord id s = some r → r.state ∈ [.held, .ready, .halted, .adrift] →
      ∃ u, exec (.remove tag id) s = .next (replyDone tag [] (zoneTakesStore u))
        ∧ StoreIs { s.store with records := s.store.records.eraseP (fun x => decide (x.id = id)) } u
        ∧ u.tally = { s.tally with removed := s.tally.removed.bump } ∧ OnlyChanges [.store, .tally] s u)
    ∧ (∀ r, findRecord id s = some r → r.state ∈ [.discharging, .offered, .inTransit, .feeding] →
      exec (.remove tag id) s = .next (replyBusy tag s))

/-- ARRIVED: the cases in order. A pack with a reservation becomes a record at the end of the store, HELD at a CHAMBER and
READY at a PASS, with the sending station's PASSED entry; the reservation leaves, a TAKEN is placed, and the received
counter rises. A pack without one, while there is room, becomes a placeholder marked UNTRACKED with the greatest pack
energy, and UNEXPECTED ARRIVAL is raised; a TAKEN under LATE goes to the upstream station where it is known. The note of an
unexpected arrival names the upstream station, 0 where it is unknown, and a refused one writes none (log entry 35); the
TAKEN is placed before the Zone Unit is told of the records (log entry 49). -/
def Obligations.ArrivalTaken : Prop :=
  ∀ (tag : Byte) (id : PackId) (up : Byte) (s : State), Ready s →
    (31 < up.toNat → exec (.arrived tag id up) s = .next (replyBad tag .parameter s))
    ∧ (up.toNat ≤ 31 → s.cfg.role = .bay → exec (.arrived tag id up) s = .next (replyRefused tag .role s))
    ∧ (up.toNat ≤ 31 → s.cfg.role ≠ .bay → findRecord id s ≠ none →
      exec (.arrived tag id up) s = .next (replyRefused tag .duplicate (raise .unexpectedArrival s)))
    ∧ (∀ v, up.toNat ≤ 31 → s.cfg.role ≠ .bay → findRecord id s = none → findReservation id s = some v →
      ∃ (u : State) (r : PackRecord), exec (.arrived tag id up) s = .next (replyDone tag [] (zoneTakesStore u))
        ∧ r.id = id ∧ r.state = (if s.cfg.role = .chamber then .held else .ready)
        ∧ r.data = (if v.pack.history.getLast? = some { station := v.station, outcome := .passed } then v.pack
            else addHistory v.station .passed v.pack)
        ∧ r.offerNumber = none ∧ r.destination = none
        ∧ StoreIs { s.store with
            records := s.store.records ++ [r]
            reservations := s.store.reservations.eraseP (fun x =>
              decide (x.station = v.station ∧ x.packId = id ∧ x.offerNumber = v.offerNumber)) } u
        ∧ u.link = (placeHandoff (.taken { head := headTo s v.station id v.offerNumber, late := false }) s).link
        ∧ u.tally = { s.tally with received := s.tally.received.bump }
        ∧ u.port = (if s.cfg.role = .chamber then s.port else (raise .recordReady s).port)
        ∧ OnlyChanges [.store, .link, .tally, .port] s u)
    ∧ (up.toNat ≤ 31 → s.cfg.role ≠ .bay → findRecord id s = none → findReservation id s = none →
      16 ≤ entriesHeld s →
      exec (.arrived tag id up) s = .next (replyRefused tag .full (raise .unexpectedArrival s)))
    ∧ (up.toNat ≤ 31 → s.cfg.role ≠ .bay → findRecord id s = none → findReservation id s = none →
      entriesHeld s < 16 →
      ∃ (u : State) (r : PackRecord), exec (.arrived tag id up) s = .next (replyDone tag []
          (raise .unexpectedArrival (handoffNote id up.toNat .unexpectedArrival (zoneTakesStore u))))
        ∧ r.id = id ∧ r.state = (if s.cfg.role = .chamber then .held else .ready)
        ∧ r.data =
            { chemistry := 0, cells := 1, eNom := s.cfg.maxPackEnergy, eDecl := none, iPack := 1, grade := 0, eDis := 0
              eDisRem := 0, residual := some s.cfg.maxPackEnergy, basis := .voltage, rounds := 0
              marks := { untracked := true }
              history := [{ station := s.cfg.station, outcome := .admitted }] }
        ∧ StoreIs { s.store with records := s.store.records ++ [r] } u
        ∧ (up.toNat = 0 → u.link = s.link)
        ∧ (up.toNat ≠ 0 → u.link =
            (placeHandoff (.taken { head := headTo s up.toNat id 0, late := true }) s).link)
        ∧ u.tally = { s.tally with received := s.tally.received.bump }
        ∧ u.port = (if s.cfg.role = .chamber then s.port else (raise .recordReady s).port)
        ∧ OnlyChanges [.store, .link, .tally, .port] s u)

/-- START: the first row of R89's table that applies decides the reply; the rows before the last change nothing. In FAULT
the bound record is handed back first. The oldest eligible record is bound and DISCHARGING, and the engine enters CONNECT
with the contactor closed at step 0, the target of the commanded current, and the contactor check at 50 samples. -/
def Obligations.StartBindsOldest : Prop :=
  ∀ (tag : Byte) (s : State), Ready s →
    (∀ r, (s.cfg.role ≠ .bay ∧ r = .role)
        ∨ (s.cfg.role = .bay
            ∧ ((s.start.phase = .listening ∧ r = .starting)
              ∨ (s.start.phase = .running ∧ startBusy s.engine.state = false
                  ∧ ((isAlarm s.zone.level = true ∧ r = .alarm)
                    ∨ (isAlarm s.zone.level = false
                        ∧ ((s.link.state = .clashed ∧ r = .clashed)
                          ∨ (s.link.state = .active
                              ∧ ((s.engine.status = .lost ∧ r = .measurement)
                                ∨ (s.engine.status ≠ .lost ∧ channelOut s 6 = true ∧ r = .hot)))))))) ) →
      exec (.start tag) s = .next (replyRefused tag r s))
    ∧ (s.cfg.role = .bay → s.start.phase = .running →
      s.engine.state ∈ [.connect, .ramp, .run, .unload, .rest, .isolate] →
      exec (.start tag) s = .next (replyBusy tag s))
    ∧ (∀ u, s.cfg.role = .bay → s.start.phase = .running → isAlarm s.zone.level = false → s.link.state = .active →
      s.engine.status ≠ .lost → channelOut s 6 = false →
      (s.engine.state = .idle ∨ s.engine.state = .done) ∧ u = s ∨ s.engine.state = .fault ∧ u = handBack s →
      ((∀ x ∈ u.store.records, eligible u x = false) →
        exec (.start tag) s = .next (replyRefused tag .empty u))
      ∧ (∀ pre x post, u.store.records = pre ++ x :: post → (∀ y ∈ pre, eligible u y = false ∧ y.id ≠ x.id) →
        x.state = .held → marksAny x.data.marks = false → s.cfg.stepCurrent ≤ x.data.iPack →
        ∃ t, exec (.start tag) s = .next (replyDone tag [packItem x.id] t)
          ∧ StoreIs { u.store with records := recordsWith x.id (·.into .discharging) u } t
          ∧ t.engine = { u.engine with
              state := .connect
              contactor := true
              present := 0
              loadStep := 0
              bound := some x.id
              settleRun := 0
              zeroRun := 0
              unloadCount := 0
              restRun := 0
              purpose := none
              faultCause := none
              checkTimer := some 50
              iCmd := commandedCurrent s x.data
              target := targetStep s (commandedCurrent s x.data) }
          ∧ OnlyChanges [.store, .engine] u t))

/-- STOP by engine state (R106): an unload for HAND-BACK under STOPPED in CONNECT, RAMP, RUN and REST; in UNLOAD the
purpose REST becomes it and any other stands; in FAULT the record is handed back and the engine IDLE; IDLE and ISOLATE
refuse. -/
def Obligations.StopHandsBack : Prop :=
  ∀ (tag : Byte) (s : State), Ready s →
    (s.cfg.role ≠ .bay → exec (.stop tag) s = .next (replyRefused tag .role s))
    ∧ (s.cfg.role = .bay →
      (s.engine.state ∈ [.connect, .ramp, .run, .rest] →
        exec (.stop tag) s = .next (replyDone tag []
          { s with engine := s.engine.unloading (.handBack .stopped) }))
      ∧ (∀ p, s.engine.state = .unload → s.engine.purpose = some p →
        exec (.stop tag) s = .next (replyDone tag [] { s with
          engine := { s.engine with purpose := some (if p = .rest then .handBack .stopped else p) } }))
      ∧ (∀ id r, s.engine.state = .fault → s.engine.bound = some id → findRecord id s = some r →
        ∃ t, exec (.stop tag) s = .next (replyDone tag [] t)
          ∧ t.engine = { s.engine.opened .idle with bound := none, faultCause := none }
          ∧ StoreIs { s.store with
              records := recordsWith id (fun x => x.into (if marksForbid r.data.marks then .ready else .held)) s } t
          ∧ t.port = (if marksForbid r.data.marks then raise .recordReady s else s).port
          ∧ OnlyChanges [.engine, .store, .port] s t)
      ∧ (s.engine.state = .idle ∨ s.engine.state = .done →
        exec (.stop tag) s = .next (replyRefused tag .idle s))
      ∧ (s.engine.state = .isolate → exec (.stop tag) s = .next (replyRefused tag .isolated s)))

/-- FEED, CONSUMED and WITHDRAW FEED at a CHAMBER. FEED with no record FEEDING takes the oldest HELD record, if it carries
no mark and the feed conditions hold, into FEEDING with a FED entry and the feed permit asserted; for a record that is
FEEDING it asserts a dropped permit again where the conditions hold; where they fail its data byte names them, bit 0
ATMOSPHERE, bit 1 ZONE and bit 2 MARK. CONSUMED
takes the FEEDING record out of the store and hands its energy to the tally; WITHDRAW FEED puts it back to HELD; both end
the permit. -/
def Obligations.FeedingRequests : Prop :=
  ∀ (tag : Byte) (s : State), Ready s →
    (s.cfg.role ≠ .chamber → exec (.feed tag) s = .next (replyRefused tag .role s)
      ∧ ∀ id, exec (.consumed tag id) s = .next (replyRefused tag .role s)
        ∧ exec (.withdrawFeed tag id) s = .next (replyRefused tag .role s))
    ∧ (s.cfg.role = .chamber →
      (s.start.phase = .listening → exec (.feed tag) s = .next (replyRefused tag .starting s))
      ∧ (s.start.phase = .running → s.link.state = .clashed →
        exec (.feed tag) s = .next (replyRefused tag .clashed s))
      ∧ (s.start.phase = .running → s.link.state = .active →
        (∀ r, feedingRecord s = some r →
          exec (.feed tag) s = .next
            (if s.atm.feedPermit = true then replyBusy tag s
             else if atmosphereFeeds s = true ∧ s.zone.level = .normal ∧ marksAny r.data.marks = false then
               replyDone tag [packItem r.id] { s with atm := { s.atm with feedPermit := true } }
             else formReply
               { code := .refused
                 tag := tag
                 reason := .because .notPermitted
                 data := [.nat 1 ((if atmosphereFeeds s = true then 0 else 1)
                   + (if s.zone.level = .normal then 0 else 2) + (if marksAny r.data.marks = true then 4 else 0))] } s))
        ∧ (feedingRecord s = none → oldestHeld s = none →
          exec (.feed tag) s = .next (replyRefused tag .empty s))
        ∧ (∀ r, feedingRecord s = none → oldestHeld s = some r → marksAny r.data.marks = true →
          exec (.feed tag) s = .next (replyRefused tag .quarantine s))
        ∧ (∀ r, feedingRecord s = none → oldestHeld s = some r → marksAny r.data.marks = false →
          atmosphereFeeds s = false ∨ s.zone.level ≠ .normal →
          exec (.feed tag) s = .next (formReply
            { code := .refused
              tag := tag
              reason := .because .notPermitted
              data := [.nat 1 ((if atmosphereFeeds s = true then 0 else 1)
                + (if s.zone.level = .normal then 0 else 2))] } s))
        ∧ (∀ r, feedingRecord s = none → oldestHeld s = some r → marksAny r.data.marks = false →
          atmosphereFeeds s = true → s.zone.level = .normal →
          ∃ t, exec (.feed tag) s = .next (replyDone tag [packItem r.id] t)
            ∧ StoreIs { s.store with
                records := recordsWith r.id (fun x =>
                  (x.into .feeding).withData (addHistory s.cfg.station .fed)) s } t
            ∧ t.atm = { s.atm with
                feedPermit := true, feedNote := some { packId := r.id, outcome := .feeding } }
            ∧ OnlyChanges [.store, .atm] s t))
      ∧ (∀ id c, c = .consumed tag id ∨ c = .withdrawFeed tag id →
        (findRecord id s = none → findReservation id s = none → exec c s = .next (replyRefused tag .unknown s))
        ∧ ((∃ r, findRecord id s = some r ∧ r.state ≠ .feeding)
            ∨ findRecord id s = none ∧ findReservation id s ≠ none →
          exec c s = .next (replyRefused tag .notFeeding s)))
      ∧ (∀ id r, findRecord id s = some r → r.state = .feeding →
        (∃ u t, exec (.consumed tag id) s = .next (replyDone tag [] t)
          ∧ StoreIs { s.store with records := s.store.records.eraseP (fun x => decide (x.id = id)) } u
          ∧ u.atm = { s.atm with feedPermit := false } ∧ OnlyChanges [.store, .atm] s u
          ∧ t = feedNote id .consumed
              (tallyConsumed id (r.data.residual.getD r.data.eNom) (zoneTakesStore u)))
        ∧ ∃ t, exec (.withdrawFeed tag id) s = .next (replyDone tag [] t)
          ∧ StoreIs { s.store with records := recordsWith id (·.into .held) s } t
          ∧ t.atm = { s.atm with
              feedPermit := false, feedNote := some { packId := id, outcome := .withdrawn } }
          ∧ OnlyChanges [.store, .atm] s t))

/-- The counters and the lot of a consumed pack: the consumed counter and the consumed residual total rise; the open lot
takes the pack and its residual, the next lot number standing; where none is open a new lot opens under that number, which
moves on; the 48th pack closes the lot FULL. A pack ID that the lot holds already joins it again, the model's choice (log
entry 55). A lot opened for the pack at an ALARM level closes at once with ALARM, and in TRIP with ATMOSPHERE. Each closing
raises LOT CLOSED. Every other value of the tally stands. A counter at its greatest value stays there and marks the rise
lost. CLOSE LOT closes the open lot of a CHAMBER with COMMAND. -/
def Obligations.LotTakesPack : Prop :=
  ∀ (id : PackId) (residual : Nat) (s : State),
    OnlyChanges [.tally, .port] s (tallyConsumed id residual s)
    ∧ (∀ x : Tally, x = { s.tally with
          consumed :=
            if s.tally.consumed.value < 4294967295 then { s.tally.consumed with value := s.tally.consumed.value + 1 }
            else { s.tally.consumed with lost := true }
          consumedResidual := min (s.tally.consumedResidual + residual) 18446744073709551615 } →
        (∀ lot, s.tally.openLot = some lot → lot.packs.length < 47 →
          (tallyConsumed id residual s).tally = { x with
            openLot := some { lot with packs := lot.packs ++ [id], residualSum := lot.residualSum + residual } }
          ∧ (tallyConsumed id residual s).port = s.port)
        ∧ (∀ lot, s.tally.openLot = some lot → 47 ≤ lot.packs.length →
          (tallyConsumed id residual s).tally = { x with
            openLot := none
            closedLots := ({ lot with
              packs := lot.packs ++ [id]
              residualSum := lot.residualSum + residual
              closeReason := some .full } :: s.tally.closedLots).take 4 }
          ∧ (tallyConsumed id residual s).port = (raise .lotClosed s).port)
        ∧ (∀ lot next, s.tally.openLot = none →
          lot = ({ number := s.tally.nextLot, closeReason := none, packs := [id], residualSum := residual
                   peak := s.atm.effective, watchEpisodes := 0, epoch := s.start.epoch.getD 0 } : Lot) →
          next = (if s.tally.nextLot = 65535 then 1 else s.tally.nextLot + 1) →
          (isAlarm s.zone.level = false → s.atm.state ≠ .trip →
            (tallyConsumed id residual s).tally = { x with openLot := some lot, nextLot := next }
            ∧ (tallyConsumed id residual s).port = s.port)
          ∧ (∀ r, isAlarm s.zone.level = true ∧ r = .alarm
                ∨ isAlarm s.zone.level = false ∧ s.atm.state = .trip ∧ r = .atmosphere →
            (tallyConsumed id residual s).tally = { x with
              openLot := none
              closedLots := ({ lot with closeReason := some r } :: s.tally.closedLots).take 4
              nextLot := next }
            ∧ (tallyConsumed id residual s).port = (raise .lotClosed s).port)))
    ∧ (∀ tag, Ready s →
        (s.cfg.role ≠ .chamber → exec (.closeLot tag) s = .next (replyRefused tag .role s))
        ∧ (s.cfg.role = .chamber → s.tally.openLot = none →
            exec (.closeLot tag) s = .next (replyRefused tag .none s))
        ∧ ∀ lot, s.cfg.role = .chamber → s.tally.openLot = some lot →
            ∃ t, exec (.closeLot tag) s = .next (replyDone tag [.nat 2 lot.number] t)
              ∧ t.tally = { s.tally with
                  openLot := none
                  closedLots := ({ lot with closeReason := some .command } :: s.tally.closedLots).take 4 }
              ∧ t.port = (raise .lotClosed s).port ∧ OnlyChanges [.tally, .port] s t)

/-- The own strict request and strict in force. The request is asserted while the STRICT command stands, a record of grade 2
or with HOT is held, or fewer than two detectors are healthy; strict is in force while it is, or a member's effective strict
request is. STRICT ON and STRICT OFF set the command; a change of strict in force makes the rising evaluation, and where
strict in force does not change nothing but these values does; the level never falls. The record counts follow a record that
leaves the store. At every sample timer expiry the Zone Unit takes its sources afresh, with the countdown, the rising
evaluation and the fall of a PREALARM that no detector holds; a countdown that ABORT pauses runs on (log entry 59). The
order of the CANCEL frames that a rise places (log entry 48), HEAT for a detector of the kind NONE (31), the settle run that
a new target leaves (33) and the last reading of a sensor kept at an expiry (52) are the model's. -/
def Obligations.StrictSources : Prop :=
  (∀ (tag : Byte) (on : Bool) (s : State), Ready s →
    ∃ t, exec (if on then .strictOn tag else .strictOff tag) s = .next (replyDone tag [] t)
      ∧ StrictTaken { s with zone := { s.zone with strictCommand := on } } t
      ∧ t.zone.strictCommand = on ∧ t.zone.grade2 = s.zone.grade2 ∧ t.zone.hot = s.zone.hot
      ∧ (t.zone.ownStrict = true ↔
          on = true ∨ 0 < s.zone.grade2 ∨ 0 < s.zone.hot ∨ s.bank.healthy < 2)
      ∧ (t.zone.strictInForce = true ↔
          t.zone.ownStrict = true ∨ ∃ n, isMember s n = true ∧ stationOk n = true
            ∧ (s.peer n).effectiveStrict = true)
      ∧ levelRank s.zone.level ≤ levelRank t.zone.level
      ∧ (t.zone.strictInForce = s.zone.strictInForce →
          t = { s with zone := { s.zone with
            strictCommand := on, ownStrict := t.zone.ownStrict, strictInForce := t.zone.strictInForce } }))
  ∧ (∀ (tag : Byte) (id : PackId) (r : PackRecord) (s : State), Ready s → s.cfg.role = .chamber →
    findRecord id s = some r → r.state = .feeding →
    ∃ u v t, exec (.consumed tag id) s = .next (replyDone tag [] t)
      ∧ StoreIs { s.store with records := s.store.records.eraseP (fun x => decide (x.id = id)) } u
      ∧ u.atm = { s.atm with feedPermit := false } ∧ OnlyChanges [.store, .atm] s u ∧ RecordsTold u v
      ∧ t = feedNote id .consumed (tallyConsumed id (r.data.residual.getD r.data.eNom) v) ∧ t.zone = v.zone)
  ∧ ∀ (contacts : Contacts) (s : State), Ready s → s.bank.sampleTimer = true →
    ∃ u v w t, exec (.sampleTimerExpiry contacts) s = .next t
      ∧ InputsTaken contacts s u ∧ ChannelsEvaluated u v ∧ ZoneHandedOver v w
      ∧ (s.cfg.role ≠ .bay → t.zone = w.zone ∧ t.link = w.link)

/-- The requests of the Zone Unit. STRICT ON and STRICT OFF set and clear the command source. RESET ZONE and RESTORE ZONE
give the reply of the first case of R163 and of R164 that applies; where none does the level falls to NORMAL with the test
flag clear and the countdown stopped, RESTORE ZONE deasserting suppression, the cause stands, and the fall is published,
with HEAT in the frame where no cause stands (log entry 31), and noted. -/
def Obligations.ZoneRequestsTaken : Prop :=
  ∀ (tag : Byte) (s : State), Ready s →
    (∀ on : Bool, ∃ t, exec (if on then .strictOn tag else .strictOff tag) s = .next (replyDone tag [] t)
      ∧ t.zone.strictCommand = on ∧ OnlyChanges [.zone, .link, .engine, .store, .atm, .tally, .port] s t)
    ∧ (∀ r, (levelRank s.zone.level < 2 ∧ r = .notInAlarm)
          ∨ (s.zone.level = .released ∧ r = .released)
          ∨ (2 ≤ levelRank s.zone.level ∧ s.zone.level ≠ .released
              ∧ ((s.zone.isolationLatch = true ∧ r = .electrical)
                ∨ (s.zone.isolationLatch = false
                    ∧ (((∃ n, 1 ≤ n ∧ n ≤ 4 ∧ channelOut s n = true) ∧ r = .active)
                      ∨ ((∀ n, 1 ≤ n → n ≤ 4 → channelOut s n = false) ∧ s.zone.cause = some .peer
                          ∧ (∃ n, stationOk n = true ∧ isMember s n = true ∧ (s.peer n).admission = .admitted
                              ∧ (s.peer n).step = .inStep ∧ isAlarm (s.peer n).effectiveLevel = true)
                          ∧ r = .peer))))) →
        exec (.resetZone tag) s = .next (replyRefused tag r s))
    ∧ (∀ r, (s.zone.level ≠ .released ∧ r = .notReleased)
          ∨ (s.zone.level = .released
              ∧ ((channelOut s 9 = false ∧ r = .key)
                ∨ (channelOut s 9 = true
                    ∧ ((s.zone.isolationLatch = true ∧ r = .electrical)
                      ∨ (s.zone.isolationLatch = false ∧ (∃ n, 1 ≤ n ∧ n ≤ 4 ∧ channelOut s n = true)
                          ∧ r = .active))))) →
        exec (.restoreZone tag) s = .next (replyRefused tag r s))
    ∧ (∀ c, s.zone.isolationLatch = false → (∀ n, 1 ≤ n → n ≤ 4 → channelOut s n = false) →
        (c = .resetZone tag ∧ 2 ≤ levelRank s.zone.level ∧ s.zone.level ≠ .released
            ∧ (s.zone.cause = some .peer → ∀ n, isMember s n = true → (s.peer n).admission = .admitted →
                (s.peer n).step = .inStep → isAlarm (s.peer n).effectiveLevel = false))
          ∨ (c = .restoreZone tag ∧ s.zone.level = .released ∧ channelOut s 9 = true) →
        ∃ t, exec c s = .next (replyDone tag [] t)
          ∧ t.zone = { s.zone with
              level := .normal
              testFlag := false
              countdown := false
              releaseCount := 0
              endDue := false
              suppression := if s.zone.level = .released then false else s.zone.suppression
              note := some { level := .normal, testFlag := false, cause := s.zone.cause, origin := .own } }
          ∧ (s.link.state = .active → t.link.alarmSlot = some
              { station := s.cfg.station, zone := s.cfg.zone, level := .normal, testFlag := false
                cause := s.zone.cause.getD .heat })
          ∧ StoreIs s.store t ∧ (contactorClosed s.engine.state = false → t.engine = s.engine)
          ∧ t.port = (raise .zoneChange s).port ∧ OnlyChanges [.zone, .link, .store, .engine, .port] s t)

/-- The requests that read are answered DONE under their tag with the values of the state as it stands, or are refused by
the case of their rule, and change nothing but the reply; READ ATMOSPHERE takes a free value for the seconds left on a
running purge timer, at most the time loaded (log entry 7), and READ EVENTS notes what its reading clears. READ EVENTS and
READ CONFIG STATUS are answered in every phase. How a value is spelled where R185 leaves it open is the model's choice (log
entries 9, 22, 24, 37, 38 and 57), and so are the kind that READ ZONE gives for a detector not SET (log entry 54) and the
countdown that it gives as running while ABORT pauses it (log entry 59). -/
def Obligations.ReadsAnswered : Prop :=
  ∀ (tag : Byte) (s : State),
    (Ready s →
      (∀ x, x ∈ [(Instr.readLink tag, linkItems s), (.readLineView tag, lineViewItems s),
            (.readFilters tag, filterItems s), (.readStore tag, storeItems s), (.readEngine tag, engineItems s),
            (.readResidual tag, residualItems s), (.readZone tag, zoneItems s), (.readTally tag, tallyItems s)] →
        exec x.1 s = .next (replyDone tag x.2 s))
      ∧ (∀ n : Byte,
        (n.toNat = 0 ∨ 31 < n.toNat → exec (.readPeer tag n) s = .next (replyBad tag .parameter s))
        ∧ (1 ≤ n.toNat → n.toNat ≤ 31 → n.toNat = s.cfg.station →
            exec (.readPeer tag n) s = .next (replyRefused tag .own s))
        ∧ (1 ≤ n.toNat → n.toNat ≤ 31 → n.toNat ≠ s.cfg.station →
            exec (.readPeer tag n) s = .next (replyDone tag (peerItems n.toNat s) s)))
      ∧ (∀ id : PackId,
        (∀ r, findRecord id s = some r → exec (.readRecord tag id) s = .next (replyDone tag (recordItems r) s))
        ∧ (∀ v, findRecord id s = none → findReservation id s = some v →
            exec (.readRecord tag id) s = .next (replyDone tag (reservationItems v) s))
        ∧ (findRecord id s = none → findReservation id s = none →
            exec (.readRecord tag id) s = .next (replyRefused tag .unknown s)))
      ∧ (∃ left, exec (.readAtmosphere tag) s = .next (replyDone tag (atmosphereItems left s)
            { s with draws := s.draws + (if s.atm.purgeTimer.isSome then 1 else 0) })
          ∧ (s.atm.purgeTimer = none → left = none)
          ∧ ∀ loaded, s.atm.purgeTimer = some loaded → ∃ seconds, left = some seconds ∧ seconds ≤ loaded)
      ∧ (∀ n : BitVec 16,
        (s.cfg.role ≠ .chamber → exec (.readLot tag n) s = .next (replyRefused tag .role s))
        ∧ (s.cfg.role = .chamber → n.toNat = 0 →
            (s.tally.openLot = none → exec (.readLot tag n) s = .next (replyRefused tag .none s))
            ∧ ∀ l, s.tally.openLot = some l → exec (.readLot tag n) s = .next (replyDone tag (lotItems l) s))
        ∧ (s.cfg.role = .chamber → n.toNat ≠ 0 →
            ((∀ l ∈ s.tally.openLot.toList ++ s.tally.closedLots, l.number ≠ n.toNat) →
              exec (.readLot tag n) s = .next (replyRefused tag .unknown s))
            ∧ ∀ pre l post, s.tally.openLot.toList ++ s.tally.closedLots = pre ++ l :: post →
              (∀ x ∈ pre, x.number ≠ n.toNat) → l.number = n.toNat →
              exec (.readLot tag n) s = .next (replyDone tag (lotItems l) s))))
    ∧ (noneDue s = true →
      exec (.readConfigStatus tag) s = .next (replyDone tag (configStatusItems s) s)
      ∧ ∃ (t : State) (o : Nat), exec (.readEvents tag) s = .next t
        ∧ o = (if s.port.pendingReply.isSome then min (s.port.overruns + 1) 255 else s.port.overruns)
        ∧ t = formReply
            { code := .done, tag := tag, data := eventItems o s
              returned := some
                { counts := s.port.counts, flags := s.bank.channels.map (fun c => c.flag), overruns := o } } s)
end

