-- ==== Sys2Proof/Laws/State.lean ====
section
/-! SUPPORT. One lemma for each field after each update of a block, so that no proof unfolds a record update. -/

namespace Sys2Proof.Machine

open Sys2Proof

/-! ## withLink -/

@[simp] theorem State.withLink_link (s : State) (x : Link) : (s.withLink x).link = x := rfl
@[simp] theorem State.withLink_peers (s : State) (x : Link) : (s.withLink x).peers = s.peers := rfl
@[simp] theorem State.withLink_bank (s : State) (x : Link) : (s.withLink x).bank = s.bank := rfl
@[simp] theorem State.withLink_store (s : State) (x : Link) : (s.withLink x).store = s.store := rfl
@[simp] theorem State.withLink_engine (s : State) (x : Link) : (s.withLink x).engine = s.engine := rfl
@[simp] theorem State.withLink_residual (s : State) (x : Link) : (s.withLink x).residual = s.residual := rfl
@[simp] theorem State.withLink_atm (s : State) (x : Link) : (s.withLink x).atm = s.atm := rfl
@[simp] theorem State.withLink_zone (s : State) (x : Link) : (s.withLink x).zone = s.zone := rfl
@[simp] theorem State.withLink_tally (s : State) (x : Link) : (s.withLink x).tally = s.tally := rfl
@[simp] theorem State.withLink_port (s : State) (x : Link) : (s.withLink x).port = s.port := rfl
@[simp] theorem State.withLink_start (s : State) (x : Link) : (s.withLink x).start = s.start := rfl
@[simp] theorem State.withLink_cfg (s : State) (x : Link) : (s.withLink x).cfg = s.cfg := rfl
@[simp] theorem State.withLink_uniqueId (s : State) (x : Link) : (s.withLink x).uniqueId = s.uniqueId := rfl
@[simp] theorem State.withLink_draws (s : State) (x : Link) : (s.withLink x).draws = s.draws := rfl
@[simp] theorem State.withLink_pending (s : State) (x : Link) : (s.withLink x).pending = s.pending := rfl
@[simp] theorem State.withLink_twice (s : State) (x y : Link) : (s.withLink x).withLink y = s.withLink y := rfl
@[simp] theorem State.withLink_self (s : State) : s.withLink s.link = s := rfl

/-! ## withPeers -/

@[simp] theorem State.withPeers_link (s : State) (x : PeerTable) : (s.withPeers x).link = s.link := rfl
@[simp] theorem State.withPeers_peers (s : State) (x : PeerTable) : (s.withPeers x).peers = x := rfl
@[simp] theorem State.withPeers_bank (s : State) (x : PeerTable) : (s.withPeers x).bank = s.bank := rfl
@[simp] theorem State.withPeers_store (s : State) (x : PeerTable) : (s.withPeers x).store = s.store := rfl
@[simp] theorem State.withPeers_engine (s : State) (x : PeerTable) : (s.withPeers x).engine = s.engine := rfl
@[simp] theorem State.withPeers_residual (s : State) (x : PeerTable) : (s.withPeers x).residual = s.residual := rfl
@[simp] theorem State.withPeers_atm (s : State) (x : PeerTable) : (s.withPeers x).atm = s.atm := rfl
@[simp] theorem State.withPeers_zone (s : State) (x : PeerTable) : (s.withPeers x).zone = s.zone := rfl
@[simp] theorem State.withPeers_tally (s : State) (x : PeerTable) : (s.withPeers x).tally = s.tally := rfl
@[simp] theorem State.withPeers_port (s : State) (x : PeerTable) : (s.withPeers x).port = s.port := rfl
@[simp] theorem State.withPeers_start (s : State) (x : PeerTable) : (s.withPeers x).start = s.start := rfl
@[simp] theorem State.withPeers_cfg (s : State) (x : PeerTable) : (s.withPeers x).cfg = s.cfg := rfl
@[simp] theorem State.withPeers_uniqueId (s : State) (x : PeerTable) : (s.withPeers x).uniqueId = s.uniqueId := rfl
@[simp] theorem State.withPeers_draws (s : State) (x : PeerTable) : (s.withPeers x).draws = s.draws := rfl
@[simp] theorem State.withPeers_pending (s : State) (x : PeerTable) : (s.withPeers x).pending = s.pending := rfl
@[simp] theorem State.withPeers_twice (s : State) (x y : PeerTable) : (s.withPeers x).withPeers y = s.withPeers y := rfl
@[simp] theorem State.withPeers_self (s : State) : s.withPeers s.peers = s := rfl

/-! ## withBank -/

@[simp] theorem State.withBank_link (s : State) (x : FilterBank) : (s.withBank x).link = s.link := rfl
@[simp] theorem State.withBank_peers (s : State) (x : FilterBank) : (s.withBank x).peers = s.peers := rfl
@[simp] theorem State.withBank_bank (s : State) (x : FilterBank) : (s.withBank x).bank = x := rfl
@[simp] theorem State.withBank_store (s : State) (x : FilterBank) : (s.withBank x).store = s.store := rfl
@[simp] theorem State.withBank_engine (s : State) (x : FilterBank) : (s.withBank x).engine = s.engine := rfl
@[simp] theorem State.withBank_residual (s : State) (x : FilterBank) : (s.withBank x).residual = s.residual := rfl
@[simp] theorem State.withBank_atm (s : State) (x : FilterBank) : (s.withBank x).atm = s.atm := rfl
@[simp] theorem State.withBank_zone (s : State) (x : FilterBank) : (s.withBank x).zone = s.zone := rfl
@[simp] theorem State.withBank_tally (s : State) (x : FilterBank) : (s.withBank x).tally = s.tally := rfl
@[simp] theorem State.withBank_port (s : State) (x : FilterBank) : (s.withBank x).port = s.port := rfl
@[simp] theorem State.withBank_start (s : State) (x : FilterBank) : (s.withBank x).start = s.start := rfl
@[simp] theorem State.withBank_cfg (s : State) (x : FilterBank) : (s.withBank x).cfg = s.cfg := rfl
@[simp] theorem State.withBank_uniqueId (s : State) (x : FilterBank) : (s.withBank x).uniqueId = s.uniqueId := rfl
@[simp] theorem State.withBank_draws (s : State) (x : FilterBank) : (s.withBank x).draws = s.draws := rfl
@[simp] theorem State.withBank_pending (s : State) (x : FilterBank) : (s.withBank x).pending = s.pending := rfl
@[simp] theorem State.withBank_twice (s : State) (x y : FilterBank) : (s.withBank x).withBank y = s.withBank y := rfl
@[simp] theorem State.withBank_self (s : State) : s.withBank s.bank = s := rfl

/-! ## withStore -/

@[simp] theorem State.withStore_link (s : State) (x : PackStore) : (s.withStore x).link = s.link := rfl
@[simp] theorem State.withStore_peers (s : State) (x : PackStore) : (s.withStore x).peers = s.peers := rfl
@[simp] theorem State.withStore_bank (s : State) (x : PackStore) : (s.withStore x).bank = s.bank := rfl
@[simp] theorem State.withStore_store (s : State) (x : PackStore) : (s.withStore x).store = x := rfl
@[simp] theorem State.withStore_engine (s : State) (x : PackStore) : (s.withStore x).engine = s.engine := rfl
@[simp] theorem State.withStore_residual (s : State) (x : PackStore) : (s.withStore x).residual = s.residual := rfl
@[simp] theorem State.withStore_atm (s : State) (x : PackStore) : (s.withStore x).atm = s.atm := rfl
@[simp] theorem State.withStore_zone (s : State) (x : PackStore) : (s.withStore x).zone = s.zone := rfl
@[simp] theorem State.withStore_tally (s : State) (x : PackStore) : (s.withStore x).tally = s.tally := rfl
@[simp] theorem State.withStore_port (s : State) (x : PackStore) : (s.withStore x).port = s.port := rfl
@[simp] theorem State.withStore_start (s : State) (x : PackStore) : (s.withStore x).start = s.start := rfl
@[simp] theorem State.withStore_cfg (s : State) (x : PackStore) : (s.withStore x).cfg = s.cfg := rfl
@[simp] theorem State.withStore_uniqueId (s : State) (x : PackStore) : (s.withStore x).uniqueId = s.uniqueId := rfl
@[simp] theorem State.withStore_draws (s : State) (x : PackStore) : (s.withStore x).draws = s.draws := rfl
@[simp] theorem State.withStore_pending (s : State) (x : PackStore) : (s.withStore x).pending = s.pending := rfl
@[simp] theorem State.withStore_twice (s : State) (x y : PackStore) : (s.withStore x).withStore y = s.withStore y := rfl
@[simp] theorem State.withStore_self (s : State) : s.withStore s.store = s := rfl

/-! ## withEngine -/

@[simp] theorem State.withEngine_link (s : State) (x : Engine) : (s.withEngine x).link = s.link := rfl
@[simp] theorem State.withEngine_peers (s : State) (x : Engine) : (s.withEngine x).peers = s.peers := rfl
@[simp] theorem State.withEngine_bank (s : State) (x : Engine) : (s.withEngine x).bank = s.bank := rfl
@[simp] theorem State.withEngine_store (s : State) (x : Engine) : (s.withEngine x).store = s.store := rfl
@[simp] theorem State.withEngine_engine (s : State) (x : Engine) : (s.withEngine x).engine = x := rfl
@[simp] theorem State.withEngine_residual (s : State) (x : Engine) : (s.withEngine x).residual = s.residual := rfl
@[simp] theorem State.withEngine_atm (s : State) (x : Engine) : (s.withEngine x).atm = s.atm := rfl
@[simp] theorem State.withEngine_zone (s : State) (x : Engine) : (s.withEngine x).zone = s.zone := rfl
@[simp] theorem State.withEngine_tally (s : State) (x : Engine) : (s.withEngine x).tally = s.tally := rfl
@[simp] theorem State.withEngine_port (s : State) (x : Engine) : (s.withEngine x).port = s.port := rfl
@[simp] theorem State.withEngine_start (s : State) (x : Engine) : (s.withEngine x).start = s.start := rfl
@[simp] theorem State.withEngine_cfg (s : State) (x : Engine) : (s.withEngine x).cfg = s.cfg := rfl
@[simp] theorem State.withEngine_uniqueId (s : State) (x : Engine) : (s.withEngine x).uniqueId = s.uniqueId := rfl
@[simp] theorem State.withEngine_draws (s : State) (x : Engine) : (s.withEngine x).draws = s.draws := rfl
@[simp] theorem State.withEngine_pending (s : State) (x : Engine) : (s.withEngine x).pending = s.pending := rfl
@[simp] theorem State.withEngine_twice (s : State) (x y : Engine) : (s.withEngine x).withEngine y = s.withEngine y := rfl
@[simp] theorem State.withEngine_self (s : State) : s.withEngine s.engine = s := rfl

/-! ## withResidual -/

@[simp] theorem State.withResidual_link (s : State) (x : Option ComputationNote) : (s.withResidual x).link = s.link := rfl
@[simp] theorem State.withResidual_peers (s : State) (x : Option ComputationNote) : (s.withResidual x).peers = s.peers := rfl
@[simp] theorem State.withResidual_bank (s : State) (x : Option ComputationNote) : (s.withResidual x).bank = s.bank := rfl
@[simp] theorem State.withResidual_store (s : State) (x : Option ComputationNote) : (s.withResidual x).store = s.store := rfl
@[simp] theorem State.withResidual_engine (s : State) (x : Option ComputationNote) : (s.withResidual x).engine = s.engine := rfl
@[simp] theorem State.withResidual_residual (s : State) (x : Option ComputationNote) : (s.withResidual x).residual = x := rfl
@[simp] theorem State.withResidual_atm (s : State) (x : Option ComputationNote) : (s.withResidual x).atm = s.atm := rfl
@[simp] theorem State.withResidual_zone (s : State) (x : Option ComputationNote) : (s.withResidual x).zone = s.zone := rfl
@[simp] theorem State.withResidual_tally (s : State) (x : Option ComputationNote) : (s.withResidual x).tally = s.tally := rfl
@[simp] theorem State.withResidual_port (s : State) (x : Option ComputationNote) : (s.withResidual x).port = s.port := rfl
@[simp] theorem State.withResidual_start (s : State) (x : Option ComputationNote) : (s.withResidual x).start = s.start := rfl
@[simp] theorem State.withResidual_cfg (s : State) (x : Option ComputationNote) : (s.withResidual x).cfg = s.cfg := rfl
@[simp] theorem State.withResidual_uniqueId (s : State) (x : Option ComputationNote) : (s.withResidual x).uniqueId = s.uniqueId := rfl
@[simp] theorem State.withResidual_draws (s : State) (x : Option ComputationNote) : (s.withResidual x).draws = s.draws := rfl
@[simp] theorem State.withResidual_pending (s : State) (x : Option ComputationNote) : (s.withResidual x).pending = s.pending := rfl
@[simp] theorem State.withResidual_twice (s : State) (x y : Option ComputationNote) : (s.withResidual x).withResidual y = s.withResidual y := rfl
@[simp] theorem State.withResidual_self (s : State) : s.withResidual s.residual = s := rfl

/-! ## withAtm -/

@[simp] theorem State.withAtm_link (s : State) (x : Atmosphere) : (s.withAtm x).link = s.link := rfl
@[simp] theorem State.withAtm_peers (s : State) (x : Atmosphere) : (s.withAtm x).peers = s.peers := rfl
@[simp] theorem State.withAtm_bank (s : State) (x : Atmosphere) : (s.withAtm x).bank = s.bank := rfl
@[simp] theorem State.withAtm_store (s : State) (x : Atmosphere) : (s.withAtm x).store = s.store := rfl
@[simp] theorem State.withAtm_engine (s : State) (x : Atmosphere) : (s.withAtm x).engine = s.engine := rfl
@[simp] theorem State.withAtm_residual (s : State) (x : Atmosphere) : (s.withAtm x).residual = s.residual := rfl
@[simp] theorem State.withAtm_atm (s : State) (x : Atmosphere) : (s.withAtm x).atm = x := rfl
@[simp] theorem State.withAtm_zone (s : State) (x : Atmosphere) : (s.withAtm x).zone = s.zone := rfl
@[simp] theorem State.withAtm_tally (s : State) (x : Atmosphere) : (s.withAtm x).tally = s.tally := rfl
@[simp] theorem State.withAtm_port (s : State) (x : Atmosphere) : (s.withAtm x).port = s.port := rfl
@[simp] theorem State.withAtm_start (s : State) (x : Atmosphere) : (s.withAtm x).start = s.start := rfl
@[simp] theorem State.withAtm_cfg (s : State) (x : Atmosphere) : (s.withAtm x).cfg = s.cfg := rfl
@[simp] theorem State.withAtm_uniqueId (s : State) (x : Atmosphere) : (s.withAtm x).uniqueId = s.uniqueId := rfl
@[simp] theorem State.withAtm_draws (s : State) (x : Atmosphere) : (s.withAtm x).draws = s.draws := rfl
@[simp] theorem State.withAtm_pending (s : State) (x : Atmosphere) : (s.withAtm x).pending = s.pending := rfl
@[simp] theorem State.withAtm_twice (s : State) (x y : Atmosphere) : (s.withAtm x).withAtm y = s.withAtm y := rfl
@[simp] theorem State.withAtm_self (s : State) : s.withAtm s.atm = s := rfl

/-! ## withZone -/

@[simp] theorem State.withZone_link (s : State) (x : Zone) : (s.withZone x).link = s.link := rfl
@[simp] theorem State.withZone_peers (s : State) (x : Zone) : (s.withZone x).peers = s.peers := rfl
@[simp] theorem State.withZone_bank (s : State) (x : Zone) : (s.withZone x).bank = s.bank := rfl
@[simp] theorem State.withZone_store (s : State) (x : Zone) : (s.withZone x).store = s.store := rfl
@[simp] theorem State.withZone_engine (s : State) (x : Zone) : (s.withZone x).engine = s.engine := rfl
@[simp] theorem State.withZone_residual (s : State) (x : Zone) : (s.withZone x).residual = s.residual := rfl
@[simp] theorem State.withZone_atm (s : State) (x : Zone) : (s.withZone x).atm = s.atm := rfl
@[simp] theorem State.withZone_zone (s : State) (x : Zone) : (s.withZone x).zone = x := rfl
@[simp] theorem State.withZone_tally (s : State) (x : Zone) : (s.withZone x).tally = s.tally := rfl
@[simp] theorem State.withZone_port (s : State) (x : Zone) : (s.withZone x).port = s.port := rfl
@[simp] theorem State.withZone_start (s : State) (x : Zone) : (s.withZone x).start = s.start := rfl
@[simp] theorem State.withZone_cfg (s : State) (x : Zone) : (s.withZone x).cfg = s.cfg := rfl
@[simp] theorem State.withZone_uniqueId (s : State) (x : Zone) : (s.withZone x).uniqueId = s.uniqueId := rfl
@[simp] theorem State.withZone_draws (s : State) (x : Zone) : (s.withZone x).draws = s.draws := rfl
@[simp] theorem State.withZone_pending (s : State) (x : Zone) : (s.withZone x).pending = s.pending := rfl
@[simp] theorem State.withZone_twice (s : State) (x y : Zone) : (s.withZone x).withZone y = s.withZone y := rfl
@[simp] theorem State.withZone_self (s : State) : s.withZone s.zone = s := rfl

/-! ## withTally -/

@[simp] theorem State.withTally_link (s : State) (x : Tally) : (s.withTally x).link = s.link := rfl
@[simp] theorem State.withTally_peers (s : State) (x : Tally) : (s.withTally x).peers = s.peers := rfl
@[simp] theorem State.withTally_bank (s : State) (x : Tally) : (s.withTally x).bank = s.bank := rfl
@[simp] theorem State.withTally_store (s : State) (x : Tally) : (s.withTally x).store = s.store := rfl
@[simp] theorem State.withTally_engine (s : State) (x : Tally) : (s.withTally x).engine = s.engine := rfl
@[simp] theorem State.withTally_residual (s : State) (x : Tally) : (s.withTally x).residual = s.residual := rfl
@[simp] theorem State.withTally_atm (s : State) (x : Tally) : (s.withTally x).atm = s.atm := rfl
@[simp] theorem State.withTally_zone (s : State) (x : Tally) : (s.withTally x).zone = s.zone := rfl
@[simp] theorem State.withTally_tally (s : State) (x : Tally) : (s.withTally x).tally = x := rfl
@[simp] theorem State.withTally_port (s : State) (x : Tally) : (s.withTally x).port = s.port := rfl
@[simp] theorem State.withTally_start (s : State) (x : Tally) : (s.withTally x).start = s.start := rfl
@[simp] theorem State.withTally_cfg (s : State) (x : Tally) : (s.withTally x).cfg = s.cfg := rfl
@[simp] theorem State.withTally_uniqueId (s : State) (x : Tally) : (s.withTally x).uniqueId = s.uniqueId := rfl
@[simp] theorem State.withTally_draws (s : State) (x : Tally) : (s.withTally x).draws = s.draws := rfl
@[simp] theorem State.withTally_pending (s : State) (x : Tally) : (s.withTally x).pending = s.pending := rfl
@[simp] theorem State.withTally_twice (s : State) (x y : Tally) : (s.withTally x).withTally y = s.withTally y := rfl
@[simp] theorem State.withTally_self (s : State) : s.withTally s.tally = s := rfl

/-! ## withPort -/

@[simp] theorem State.withPort_link (s : State) (x : Port) : (s.withPort x).link = s.link := rfl
@[simp] theorem State.withPort_peers (s : State) (x : Port) : (s.withPort x).peers = s.peers := rfl
@[simp] theorem State.withPort_bank (s : State) (x : Port) : (s.withPort x).bank = s.bank := rfl
@[simp] theorem State.withPort_store (s : State) (x : Port) : (s.withPort x).store = s.store := rfl
@[simp] theorem State.withPort_engine (s : State) (x : Port) : (s.withPort x).engine = s.engine := rfl
@[simp] theorem State.withPort_residual (s : State) (x : Port) : (s.withPort x).residual = s.residual := rfl
@[simp] theorem State.withPort_atm (s : State) (x : Port) : (s.withPort x).atm = s.atm := rfl
@[simp] theorem State.withPort_zone (s : State) (x : Port) : (s.withPort x).zone = s.zone := rfl
@[simp] theorem State.withPort_tally (s : State) (x : Port) : (s.withPort x).tally = s.tally := rfl
@[simp] theorem State.withPort_port (s : State) (x : Port) : (s.withPort x).port = x := rfl
@[simp] theorem State.withPort_start (s : State) (x : Port) : (s.withPort x).start = s.start := rfl
@[simp] theorem State.withPort_cfg (s : State) (x : Port) : (s.withPort x).cfg = s.cfg := rfl
@[simp] theorem State.withPort_uniqueId (s : State) (x : Port) : (s.withPort x).uniqueId = s.uniqueId := rfl
@[simp] theorem State.withPort_draws (s : State) (x : Port) : (s.withPort x).draws = s.draws := rfl
@[simp] theorem State.withPort_pending (s : State) (x : Port) : (s.withPort x).pending = s.pending := rfl
@[simp] theorem State.withPort_twice (s : State) (x y : Port) : (s.withPort x).withPort y = s.withPort y := rfl
@[simp] theorem State.withPort_self (s : State) : s.withPort s.port = s := rfl

/-! ## withStart -/

@[simp] theorem State.withStart_link (s : State) (x : Start) : (s.withStart x).link = s.link := rfl
@[simp] theorem State.withStart_peers (s : State) (x : Start) : (s.withStart x).peers = s.peers := rfl
@[simp] theorem State.withStart_bank (s : State) (x : Start) : (s.withStart x).bank = s.bank := rfl
@[simp] theorem State.withStart_store (s : State) (x : Start) : (s.withStart x).store = s.store := rfl
@[simp] theorem State.withStart_engine (s : State) (x : Start) : (s.withStart x).engine = s.engine := rfl
@[simp] theorem State.withStart_residual (s : State) (x : Start) : (s.withStart x).residual = s.residual := rfl
@[simp] theorem State.withStart_atm (s : State) (x : Start) : (s.withStart x).atm = s.atm := rfl
@[simp] theorem State.withStart_zone (s : State) (x : Start) : (s.withStart x).zone = s.zone := rfl
@[simp] theorem State.withStart_tally (s : State) (x : Start) : (s.withStart x).tally = s.tally := rfl
@[simp] theorem State.withStart_port (s : State) (x : Start) : (s.withStart x).port = s.port := rfl
@[simp] theorem State.withStart_start (s : State) (x : Start) : (s.withStart x).start = x := rfl
@[simp] theorem State.withStart_cfg (s : State) (x : Start) : (s.withStart x).cfg = s.cfg := rfl
@[simp] theorem State.withStart_uniqueId (s : State) (x : Start) : (s.withStart x).uniqueId = s.uniqueId := rfl
@[simp] theorem State.withStart_draws (s : State) (x : Start) : (s.withStart x).draws = s.draws := rfl
@[simp] theorem State.withStart_pending (s : State) (x : Start) : (s.withStart x).pending = s.pending := rfl
@[simp] theorem State.withStart_twice (s : State) (x y : Start) : (s.withStart x).withStart y = s.withStart y := rfl
@[simp] theorem State.withStart_self (s : State) : s.withStart s.start = s := rfl

/-! ## withCfg -/

@[simp] theorem State.withCfg_link (s : State) (x : Settings) : (s.withCfg x).link = s.link := rfl
@[simp] theorem State.withCfg_peers (s : State) (x : Settings) : (s.withCfg x).peers = s.peers := rfl
@[simp] theorem State.withCfg_bank (s : State) (x : Settings) : (s.withCfg x).bank = s.bank := rfl
@[simp] theorem State.withCfg_store (s : State) (x : Settings) : (s.withCfg x).store = s.store := rfl
@[simp] theorem State.withCfg_engine (s : State) (x : Settings) : (s.withCfg x).engine = s.engine := rfl
@[simp] theorem State.withCfg_residual (s : State) (x : Settings) : (s.withCfg x).residual = s.residual := rfl
@[simp] theorem State.withCfg_atm (s : State) (x : Settings) : (s.withCfg x).atm = s.atm := rfl
@[simp] theorem State.withCfg_zone (s : State) (x : Settings) : (s.withCfg x).zone = s.zone := rfl
@[simp] theorem State.withCfg_tally (s : State) (x : Settings) : (s.withCfg x).tally = s.tally := rfl
@[simp] theorem State.withCfg_port (s : State) (x : Settings) : (s.withCfg x).port = s.port := rfl
@[simp] theorem State.withCfg_start (s : State) (x : Settings) : (s.withCfg x).start = s.start := rfl
@[simp] theorem State.withCfg_cfg (s : State) (x : Settings) : (s.withCfg x).cfg = x := rfl
@[simp] theorem State.withCfg_uniqueId (s : State) (x : Settings) : (s.withCfg x).uniqueId = s.uniqueId := rfl
@[simp] theorem State.withCfg_draws (s : State) (x : Settings) : (s.withCfg x).draws = s.draws := rfl
@[simp] theorem State.withCfg_pending (s : State) (x : Settings) : (s.withCfg x).pending = s.pending := rfl
@[simp] theorem State.withCfg_twice (s : State) (x y : Settings) : (s.withCfg x).withCfg y = s.withCfg y := rfl
@[simp] theorem State.withCfg_self (s : State) : s.withCfg s.cfg = s := rfl

/-! ## withDraws -/

@[simp] theorem State.withDraws_link (s : State) (x : Nat) : (s.withDraws x).link = s.link := rfl
@[simp] theorem State.withDraws_peers (s : State) (x : Nat) : (s.withDraws x).peers = s.peers := rfl
@[simp] theorem State.withDraws_bank (s : State) (x : Nat) : (s.withDraws x).bank = s.bank := rfl
@[simp] theorem State.withDraws_store (s : State) (x : Nat) : (s.withDraws x).store = s.store := rfl
@[simp] theorem State.withDraws_engine (s : State) (x : Nat) : (s.withDraws x).engine = s.engine := rfl
@[simp] theorem State.withDraws_residual (s : State) (x : Nat) : (s.withDraws x).residual = s.residual := rfl
@[simp] theorem State.withDraws_atm (s : State) (x : Nat) : (s.withDraws x).atm = s.atm := rfl
@[simp] theorem State.withDraws_zone (s : State) (x : Nat) : (s.withDraws x).zone = s.zone := rfl
@[simp] theorem State.withDraws_tally (s : State) (x : Nat) : (s.withDraws x).tally = s.tally := rfl
@[simp] theorem State.withDraws_port (s : State) (x : Nat) : (s.withDraws x).port = s.port := rfl
@[simp] theorem State.withDraws_start (s : State) (x : Nat) : (s.withDraws x).start = s.start := rfl
@[simp] theorem State.withDraws_cfg (s : State) (x : Nat) : (s.withDraws x).cfg = s.cfg := rfl
@[simp] theorem State.withDraws_uniqueId (s : State) (x : Nat) : (s.withDraws x).uniqueId = s.uniqueId := rfl
@[simp] theorem State.withDraws_draws (s : State) (x : Nat) : (s.withDraws x).draws = x := rfl
@[simp] theorem State.withDraws_pending (s : State) (x : Nat) : (s.withDraws x).pending = s.pending := rfl
@[simp] theorem State.withDraws_twice (s : State) (x y : Nat) : (s.withDraws x).withDraws y = s.withDraws y := rfl
@[simp] theorem State.withDraws_self (s : State) : s.withDraws s.draws = s := rfl

end Sys2Proof.Machine
end

