-- ==== Sys2Proof/Laws/Frames.lean ====
section
/-! SUPPORT. What each shared operation leaves alone: for every operation one lemma that names each block it does not
touch. The lemmas are simplification rules, so a proof about a command never unfolds an operation for its frame. -/

namespace Sys2Proof.Machine

open Sys2Proof

/-- What a fold keeps if each of its steps keeps it. -/
theorem foldl_keeps {α β : Type} {P : β → Prop} {f : β → α → β} (step : ∀ b a, P b → P (f b a)) :
    ∀ (l : List α) (b : β), P b → P (l.foldl f b)
  | [], _, h => h
  | a :: l, b, h => foldl_keeps step l (f b a) (step b a h)

@[simp] theorem raise_frame (k : EventKind) (s : State) :
    (raise k s).link = s.link ∧ (raise k s).peers = s.peers ∧ (raise k s).bank = s.bank ∧ (raise k s).store = s.store
      ∧ (raise k s).engine = s.engine ∧ (raise k s).residual = s.residual ∧ (raise k s).atm = s.atm ∧ (raise k s).zone = s.zone
      ∧ (raise k s).tally = s.tally ∧ (raise k s).start = s.start ∧ (raise k s).cfg = s.cfg ∧ (raise k s).uniqueId = s.uniqueId
      ∧ (raise k s).draws = s.draws ∧ (raise k s).pending = s.pending := by simp [raise]

@[simp] theorem formReply_frame (r : Reply) (s : State) :
    (formReply r s).link = s.link ∧ (formReply r s).peers = s.peers ∧ (formReply r s).bank = s.bank ∧ (formReply r s).store = s.store
      ∧ (formReply r s).engine = s.engine ∧ (formReply r s).residual = s.residual ∧ (formReply r s).atm = s.atm ∧ (formReply r s).zone = s.zone
      ∧ (formReply r s).tally = s.tally ∧ (formReply r s).start = s.start ∧ (formReply r s).cfg = s.cfg ∧ (formReply r s).uniqueId = s.uniqueId
      ∧ (formReply r s).draws = s.draws ∧ (formReply r s).pending = s.pending := by
  unfold formReply; try dsimp only
  (repeat' split) <;> simp

@[simp] theorem replyDone_frame (tag : Byte) (data : List Item) (s : State) :
    (replyDone tag data s).link = s.link ∧ (replyDone tag data s).peers = s.peers ∧ (replyDone tag data s).bank = s.bank ∧ (replyDone tag data s).store = s.store
      ∧ (replyDone tag data s).engine = s.engine ∧ (replyDone tag data s).residual = s.residual ∧ (replyDone tag data s).atm = s.atm ∧ (replyDone tag data s).zone = s.zone
      ∧ (replyDone tag data s).tally = s.tally ∧ (replyDone tag data s).start = s.start ∧ (replyDone tag data s).cfg = s.cfg ∧ (replyDone tag data s).uniqueId = s.uniqueId
      ∧ (replyDone tag data s).draws = s.draws ∧ (replyDone tag data s).pending = s.pending := by simp [replyDone]

@[simp] theorem replyRefused_frame (tag : Byte) (r : Reason) (s : State) :
    (replyRefused tag r s).link = s.link ∧ (replyRefused tag r s).peers = s.peers ∧ (replyRefused tag r s).bank = s.bank ∧ (replyRefused tag r s).store = s.store
      ∧ (replyRefused tag r s).engine = s.engine ∧ (replyRefused tag r s).residual = s.residual ∧ (replyRefused tag r s).atm = s.atm ∧ (replyRefused tag r s).zone = s.zone
      ∧ (replyRefused tag r s).tally = s.tally ∧ (replyRefused tag r s).start = s.start ∧ (replyRefused tag r s).cfg = s.cfg ∧ (replyRefused tag r s).uniqueId = s.uniqueId
      ∧ (replyRefused tag r s).draws = s.draws ∧ (replyRefused tag r s).pending = s.pending := by simp [replyRefused]

@[simp] theorem replyBusy_frame (tag : Byte) (s : State) :
    (replyBusy tag s).link = s.link ∧ (replyBusy tag s).peers = s.peers ∧ (replyBusy tag s).bank = s.bank ∧ (replyBusy tag s).store = s.store
      ∧ (replyBusy tag s).engine = s.engine ∧ (replyBusy tag s).residual = s.residual ∧ (replyBusy tag s).atm = s.atm ∧ (replyBusy tag s).zone = s.zone
      ∧ (replyBusy tag s).tally = s.tally ∧ (replyBusy tag s).start = s.start ∧ (replyBusy tag s).cfg = s.cfg ∧ (replyBusy tag s).uniqueId = s.uniqueId
      ∧ (replyBusy tag s).draws = s.draws ∧ (replyBusy tag s).pending = s.pending := by simp [replyBusy]

@[simp] theorem replyBad_frame (tag : Byte) (r : Reason) (s : State) :
    (replyBad tag r s).link = s.link ∧ (replyBad tag r s).peers = s.peers ∧ (replyBad tag r s).bank = s.bank ∧ (replyBad tag r s).store = s.store
      ∧ (replyBad tag r s).engine = s.engine ∧ (replyBad tag r s).residual = s.residual ∧ (replyBad tag r s).atm = s.atm ∧ (replyBad tag r s).zone = s.zone
      ∧ (replyBad tag r s).tally = s.tally ∧ (replyBad tag r s).start = s.start ∧ (replyBad tag r s).cfg = s.cfg ∧ (replyBad tag r s).uniqueId = s.uniqueId
      ∧ (replyBad tag r s).draws = s.draws ∧ (replyBad tag r s).pending = s.pending := by simp [replyBad]

@[simp] theorem countReceiveError_frame (s : State) :
    (countReceiveError s).peers = s.peers ∧ (countReceiveError s).bank = s.bank ∧ (countReceiveError s).store = s.store ∧ (countReceiveError s).engine = s.engine
      ∧ (countReceiveError s).residual = s.residual ∧ (countReceiveError s).atm = s.atm ∧ (countReceiveError s).zone = s.zone ∧ (countReceiveError s).tally = s.tally
      ∧ (countReceiveError s).port = s.port ∧ (countReceiveError s).start = s.start ∧ (countReceiveError s).cfg = s.cfg ∧ (countReceiveError s).uniqueId = s.uniqueId
      ∧ (countReceiveError s).draws = s.draws ∧ (countReceiveError s).pending = s.pending := by simp [countReceiveError]

@[simp] theorem placeState_frame (f : StateFrame) (s : State) :
    (placeState f s).peers = s.peers ∧ (placeState f s).bank = s.bank ∧ (placeState f s).store = s.store ∧ (placeState f s).engine = s.engine
      ∧ (placeState f s).residual = s.residual ∧ (placeState f s).atm = s.atm ∧ (placeState f s).zone = s.zone ∧ (placeState f s).tally = s.tally
      ∧ (placeState f s).port = s.port ∧ (placeState f s).start = s.start ∧ (placeState f s).cfg = s.cfg ∧ (placeState f s).uniqueId = s.uniqueId
      ∧ (placeState f s).draws = s.draws ∧ (placeState f s).pending = s.pending := by
  unfold placeState; try dsimp only
  (repeat' split) <;> simp

@[simp] theorem placeAlarm_frame (f : AlarmFrame) (s : State) :
    (placeAlarm f s).peers = s.peers ∧ (placeAlarm f s).bank = s.bank ∧ (placeAlarm f s).store = s.store ∧ (placeAlarm f s).engine = s.engine
      ∧ (placeAlarm f s).residual = s.residual ∧ (placeAlarm f s).atm = s.atm ∧ (placeAlarm f s).zone = s.zone ∧ (placeAlarm f s).tally = s.tally
      ∧ (placeAlarm f s).port = s.port ∧ (placeAlarm f s).start = s.start ∧ (placeAlarm f s).cfg = s.cfg ∧ (placeAlarm f s).uniqueId = s.uniqueId
      ∧ (placeAlarm f s).draws = s.draws ∧ (placeAlarm f s).pending = s.pending := by
  unfold placeAlarm; try dsimp only
  (repeat' split) <;> simp

@[simp] theorem placeJoin_frame (f : JoinFrame) (s : State) :
    (placeJoin f s).peers = s.peers ∧ (placeJoin f s).bank = s.bank ∧ (placeJoin f s).store = s.store ∧ (placeJoin f s).engine = s.engine
      ∧ (placeJoin f s).residual = s.residual ∧ (placeJoin f s).atm = s.atm ∧ (placeJoin f s).zone = s.zone ∧ (placeJoin f s).tally = s.tally
      ∧ (placeJoin f s).port = s.port ∧ (placeJoin f s).start = s.start ∧ (placeJoin f s).cfg = s.cfg ∧ (placeJoin f s).uniqueId = s.uniqueId
      ∧ (placeJoin f s).draws = s.draws ∧ (placeJoin f s).pending = s.pending := by
  unfold placeJoin; try dsimp only
  (repeat' split) <;> simp

@[simp] theorem placeHandoff_frame (f : HandoffFrame) (s : State) :
    (placeHandoff f s).peers = s.peers ∧ (placeHandoff f s).bank = s.bank ∧ (placeHandoff f s).store = s.store ∧ (placeHandoff f s).engine = s.engine
      ∧ (placeHandoff f s).residual = s.residual ∧ (placeHandoff f s).atm = s.atm ∧ (placeHandoff f s).zone = s.zone ∧ (placeHandoff f s).tally = s.tally
      ∧ (placeHandoff f s).port = s.port ∧ (placeHandoff f s).start = s.start ∧ (placeHandoff f s).cfg = s.cfg ∧ (placeHandoff f s).uniqueId = s.uniqueId
      ∧ (placeHandoff f s).draws = s.draws ∧ (placeHandoff f s).pending = s.pending := by
  unfold placeHandoff; try dsimp only
  (repeat' split) <;> simp

@[simp] theorem peerChange_frame (reason : PeerNoteReason) (station : Nat) (s : State) :
    (peerChange reason station s).link = s.link ∧ (peerChange reason station s).bank = s.bank ∧ (peerChange reason station s).store = s.store ∧ (peerChange reason station s).engine = s.engine
      ∧ (peerChange reason station s).residual = s.residual ∧ (peerChange reason station s).atm = s.atm ∧ (peerChange reason station s).zone = s.zone ∧ (peerChange reason station s).tally = s.tally
      ∧ (peerChange reason station s).start = s.start ∧ (peerChange reason station s).cfg = s.cfg ∧ (peerChange reason station s).uniqueId = s.uniqueId ∧ (peerChange reason station s).draws = s.draws
      ∧ (peerChange reason station s).pending = s.pending := by simp [peerChange]

@[simp] theorem State.setPeer_frame (n : Nat) (e : PeerEntry) (s : State) :
    (s.setPeer n e).link = s.link ∧ (s.setPeer n e).bank = s.bank ∧ (s.setPeer n e).store = s.store ∧ (s.setPeer n e).engine = s.engine
      ∧ (s.setPeer n e).residual = s.residual ∧ (s.setPeer n e).atm = s.atm ∧ (s.setPeer n e).zone = s.zone ∧ (s.setPeer n e).tally = s.tally
      ∧ (s.setPeer n e).port = s.port ∧ (s.setPeer n e).start = s.start ∧ (s.setPeer n e).cfg = s.cfg ∧ (s.setPeer n e).uniqueId = s.uniqueId
      ∧ (s.setPeer n e).draws = s.draws ∧ (s.setPeer n e).pending = s.pending := by simp [State.setPeer]

@[simp] theorem countAdmitted_frame (s : State) :
    (countAdmitted s).link = s.link ∧ (countAdmitted s).peers = s.peers ∧ (countAdmitted s).bank = s.bank ∧ (countAdmitted s).store = s.store
      ∧ (countAdmitted s).engine = s.engine ∧ (countAdmitted s).residual = s.residual ∧ (countAdmitted s).atm = s.atm ∧ (countAdmitted s).zone = s.zone
      ∧ (countAdmitted s).port = s.port ∧ (countAdmitted s).start = s.start ∧ (countAdmitted s).cfg = s.cfg ∧ (countAdmitted s).uniqueId = s.uniqueId
      ∧ (countAdmitted s).draws = s.draws ∧ (countAdmitted s).pending = s.pending := by simp [countAdmitted]

@[simp] theorem countReceived_frame (s : State) :
    (countReceived s).link = s.link ∧ (countReceived s).peers = s.peers ∧ (countReceived s).bank = s.bank ∧ (countReceived s).store = s.store
      ∧ (countReceived s).engine = s.engine ∧ (countReceived s).residual = s.residual ∧ (countReceived s).atm = s.atm ∧ (countReceived s).zone = s.zone
      ∧ (countReceived s).port = s.port ∧ (countReceived s).start = s.start ∧ (countReceived s).cfg = s.cfg ∧ (countReceived s).uniqueId = s.uniqueId
      ∧ (countReceived s).draws = s.draws ∧ (countReceived s).pending = s.pending := by simp [countReceived]

@[simp] theorem countReleased_frame (s : State) :
    (countReleased s).link = s.link ∧ (countReleased s).peers = s.peers ∧ (countReleased s).bank = s.bank ∧ (countReleased s).store = s.store
      ∧ (countReleased s).engine = s.engine ∧ (countReleased s).residual = s.residual ∧ (countReleased s).atm = s.atm ∧ (countReleased s).zone = s.zone
      ∧ (countReleased s).port = s.port ∧ (countReleased s).start = s.start ∧ (countReleased s).cfg = s.cfg ∧ (countReleased s).uniqueId = s.uniqueId
      ∧ (countReleased s).draws = s.draws ∧ (countReleased s).pending = s.pending := by simp [countReleased]

@[simp] theorem countRemoved_frame (s : State) :
    (countRemoved s).link = s.link ∧ (countRemoved s).peers = s.peers ∧ (countRemoved s).bank = s.bank ∧ (countRemoved s).store = s.store
      ∧ (countRemoved s).engine = s.engine ∧ (countRemoved s).residual = s.residual ∧ (countRemoved s).atm = s.atm ∧ (countRemoved s).zone = s.zone
      ∧ (countRemoved s).port = s.port ∧ (countRemoved s).start = s.start ∧ (countRemoved s).cfg = s.cfg ∧ (countRemoved s).uniqueId = s.uniqueId
      ∧ (countRemoved s).draws = s.draws ∧ (countRemoved s).pending = s.pending := by simp [countRemoved]

@[simp] theorem addDischarged_frame (joules : Nat) (s : State) :
    (addDischarged joules s).link = s.link ∧ (addDischarged joules s).peers = s.peers ∧ (addDischarged joules s).bank = s.bank ∧ (addDischarged joules s).store = s.store
      ∧ (addDischarged joules s).engine = s.engine ∧ (addDischarged joules s).residual = s.residual ∧ (addDischarged joules s).atm = s.atm ∧ (addDischarged joules s).zone = s.zone
      ∧ (addDischarged joules s).port = s.port ∧ (addDischarged joules s).start = s.start ∧ (addDischarged joules s).cfg = s.cfg ∧ (addDischarged joules s).uniqueId = s.uniqueId
      ∧ (addDischarged joules s).draws = s.draws ∧ (addDischarged joules s).pending = s.pending := by simp [addDischarged]

@[simp] theorem closeLot_frame (reason : CloseReason) (s : State) :
    (closeLot reason s).link = s.link ∧ (closeLot reason s).peers = s.peers ∧ (closeLot reason s).bank = s.bank ∧ (closeLot reason s).store = s.store
      ∧ (closeLot reason s).engine = s.engine ∧ (closeLot reason s).residual = s.residual ∧ (closeLot reason s).atm = s.atm ∧ (closeLot reason s).zone = s.zone
      ∧ (closeLot reason s).start = s.start ∧ (closeLot reason s).cfg = s.cfg ∧ (closeLot reason s).uniqueId = s.uniqueId ∧ (closeLot reason s).draws = s.draws
      ∧ (closeLot reason s).pending = s.pending := by
  unfold closeLot; try dsimp only
  (repeat' split) <;> simp

@[simp] theorem openLot_frame (s : State) :
    (openLot s).link = s.link ∧ (openLot s).peers = s.peers ∧ (openLot s).bank = s.bank ∧ (openLot s).store = s.store
      ∧ (openLot s).engine = s.engine ∧ (openLot s).residual = s.residual ∧ (openLot s).atm = s.atm ∧ (openLot s).zone = s.zone
      ∧ (openLot s).port = s.port ∧ (openLot s).start = s.start ∧ (openLot s).cfg = s.cfg ∧ (openLot s).uniqueId = s.uniqueId
      ∧ (openLot s).draws = s.draws ∧ (openLot s).pending = s.pending := by simp [openLot]

@[simp] theorem enterLot_frame (id : PackId) (residual : Nat) (s : State) :
    (enterLot id residual s).link = s.link ∧ (enterLot id residual s).peers = s.peers ∧ (enterLot id residual s).bank = s.bank ∧ (enterLot id residual s).store = s.store
      ∧ (enterLot id residual s).engine = s.engine ∧ (enterLot id residual s).residual = s.residual ∧ (enterLot id residual s).atm = s.atm ∧ (enterLot id residual s).zone = s.zone
      ∧ (enterLot id residual s).start = s.start ∧ (enterLot id residual s).cfg = s.cfg ∧ (enterLot id residual s).uniqueId = s.uniqueId ∧ (enterLot id residual s).draws = s.draws
      ∧ (enterLot id residual s).pending = s.pending := by
  unfold enterLot; try dsimp only
  (repeat' split) <;> simp

@[simp] theorem tallyConsumed_frame (id : PackId) (residual : Nat) (s : State) :
    (tallyConsumed id residual s).link = s.link ∧ (tallyConsumed id residual s).peers = s.peers ∧ (tallyConsumed id residual s).bank = s.bank ∧ (tallyConsumed id residual s).store = s.store
      ∧ (tallyConsumed id residual s).engine = s.engine ∧ (tallyConsumed id residual s).residual = s.residual ∧ (tallyConsumed id residual s).atm = s.atm ∧ (tallyConsumed id residual s).zone = s.zone
      ∧ (tallyConsumed id residual s).start = s.start ∧ (tallyConsumed id residual s).cfg = s.cfg ∧ (tallyConsumed id residual s).uniqueId = s.uniqueId ∧ (tallyConsumed id residual s).draws = s.draws
      ∧ (tallyConsumed id residual s).pending = s.pending := by
  unfold tallyConsumed; try dsimp only
  (repeat' split) <;> simp

@[simp] theorem tallyPeak_frame (s : State) :
    (tallyPeak s).link = s.link ∧ (tallyPeak s).peers = s.peers ∧ (tallyPeak s).bank = s.bank ∧ (tallyPeak s).store = s.store
      ∧ (tallyPeak s).engine = s.engine ∧ (tallyPeak s).residual = s.residual ∧ (tallyPeak s).atm = s.atm ∧ (tallyPeak s).zone = s.zone
      ∧ (tallyPeak s).port = s.port ∧ (tallyPeak s).start = s.start ∧ (tallyPeak s).cfg = s.cfg ∧ (tallyPeak s).uniqueId = s.uniqueId
      ∧ (tallyPeak s).draws = s.draws ∧ (tallyPeak s).pending = s.pending := by
  unfold tallyPeak; try dsimp only
  (repeat' split) <;> simp

@[simp] theorem tallyWatch_frame (s : State) :
    (tallyWatch s).link = s.link ∧ (tallyWatch s).peers = s.peers ∧ (tallyWatch s).bank = s.bank ∧ (tallyWatch s).store = s.store
      ∧ (tallyWatch s).engine = s.engine ∧ (tallyWatch s).residual = s.residual ∧ (tallyWatch s).atm = s.atm ∧ (tallyWatch s).zone = s.zone
      ∧ (tallyWatch s).port = s.port ∧ (tallyWatch s).start = s.start ∧ (tallyWatch s).cfg = s.cfg ∧ (tallyWatch s).uniqueId = s.uniqueId
      ∧ (tallyWatch s).draws = s.draws ∧ (tallyWatch s).pending = s.pending := by
  unfold tallyWatch; try dsimp only
  (repeat' split) <;> simp

@[simp] theorem refreshStore_frame (s : State) :
    (refreshStore s).link = s.link ∧ (refreshStore s).peers = s.peers ∧ (refreshStore s).bank = s.bank ∧ (refreshStore s).engine = s.engine
      ∧ (refreshStore s).residual = s.residual ∧ (refreshStore s).atm = s.atm ∧ (refreshStore s).zone = s.zone ∧ (refreshStore s).tally = s.tally
      ∧ (refreshStore s).port = s.port ∧ (refreshStore s).start = s.start ∧ (refreshStore s).cfg = s.cfg ∧ (refreshStore s).uniqueId = s.uniqueId
      ∧ (refreshStore s).draws = s.draws ∧ (refreshStore s).pending = s.pending := by simp [refreshStore]

@[simp] theorem putRecords_frame (rs : List PackRecord) (s : State) :
    (putRecords rs s).link = s.link ∧ (putRecords rs s).peers = s.peers ∧ (putRecords rs s).bank = s.bank ∧ (putRecords rs s).engine = s.engine
      ∧ (putRecords rs s).residual = s.residual ∧ (putRecords rs s).atm = s.atm ∧ (putRecords rs s).zone = s.zone ∧ (putRecords rs s).tally = s.tally
      ∧ (putRecords rs s).port = s.port ∧ (putRecords rs s).start = s.start ∧ (putRecords rs s).cfg = s.cfg ∧ (putRecords rs s).uniqueId = s.uniqueId
      ∧ (putRecords rs s).draws = s.draws ∧ (putRecords rs s).pending = s.pending := by simp [putRecords]

@[simp] theorem putReservations_frame (rs : List Reservation) (s : State) :
    (putReservations rs s).link = s.link ∧ (putReservations rs s).peers = s.peers ∧ (putReservations rs s).bank = s.bank ∧ (putReservations rs s).engine = s.engine
      ∧ (putReservations rs s).residual = s.residual ∧ (putReservations rs s).atm = s.atm ∧ (putReservations rs s).zone = s.zone ∧ (putReservations rs s).tally = s.tally
      ∧ (putReservations rs s).port = s.port ∧ (putReservations rs s).start = s.start ∧ (putReservations rs s).cfg = s.cfg ∧ (putReservations rs s).uniqueId = s.uniqueId
      ∧ (putReservations rs s).draws = s.draws ∧ (putReservations rs s).pending = s.pending := by simp [putReservations]

@[simp] theorem updateRecord_frame (id : PackId) (f : PackRecord → PackRecord) (s : State) :
    (updateRecord id f s).link = s.link ∧ (updateRecord id f s).peers = s.peers ∧ (updateRecord id f s).bank = s.bank ∧ (updateRecord id f s).engine = s.engine
      ∧ (updateRecord id f s).residual = s.residual ∧ (updateRecord id f s).atm = s.atm ∧ (updateRecord id f s).zone = s.zone ∧ (updateRecord id f s).tally = s.tally
      ∧ (updateRecord id f s).port = s.port ∧ (updateRecord id f s).start = s.start ∧ (updateRecord id f s).cfg = s.cfg ∧ (updateRecord id f s).uniqueId = s.uniqueId
      ∧ (updateRecord id f s).draws = s.draws ∧ (updateRecord id f s).pending = s.pending := by simp [updateRecord]

@[simp] theorem joinRecord_frame (r : PackRecord) (s : State) :
    (joinRecord r s).link = s.link ∧ (joinRecord r s).peers = s.peers ∧ (joinRecord r s).bank = s.bank ∧ (joinRecord r s).engine = s.engine
      ∧ (joinRecord r s).residual = s.residual ∧ (joinRecord r s).atm = s.atm ∧ (joinRecord r s).zone = s.zone ∧ (joinRecord r s).tally = s.tally
      ∧ (joinRecord r s).port = s.port ∧ (joinRecord r s).start = s.start ∧ (joinRecord r s).cfg = s.cfg ∧ (joinRecord r s).uniqueId = s.uniqueId
      ∧ (joinRecord r s).draws = s.draws ∧ (joinRecord r s).pending = s.pending := by simp [joinRecord]

@[simp] theorem dropRecord_frame (id : PackId) (s : State) :
    (dropRecord id s).link = s.link ∧ (dropRecord id s).peers = s.peers ∧ (dropRecord id s).bank = s.bank ∧ (dropRecord id s).engine = s.engine
      ∧ (dropRecord id s).residual = s.residual ∧ (dropRecord id s).atm = s.atm ∧ (dropRecord id s).zone = s.zone ∧ (dropRecord id s).tally = s.tally
      ∧ (dropRecord id s).port = s.port ∧ (dropRecord id s).start = s.start ∧ (dropRecord id s).cfg = s.cfg ∧ (dropRecord id s).uniqueId = s.uniqueId
      ∧ (dropRecord id s).draws = s.draws ∧ (dropRecord id s).pending = s.pending := by simp [dropRecord]

@[simp] theorem dropReservation_frame (v : Reservation) (s : State) :
    (dropReservation v s).link = s.link ∧ (dropReservation v s).peers = s.peers ∧ (dropReservation v s).bank = s.bank ∧ (dropReservation v s).engine = s.engine
      ∧ (dropReservation v s).residual = s.residual ∧ (dropReservation v s).atm = s.atm ∧ (dropReservation v s).zone = s.zone ∧ (dropReservation v s).tally = s.tally
      ∧ (dropReservation v s).port = s.port ∧ (dropReservation v s).start = s.start ∧ (dropReservation v s).cfg = s.cfg ∧ (dropReservation v s).uniqueId = s.uniqueId
      ∧ (dropReservation v s).draws = s.draws ∧ (dropReservation v s).pending = s.pending := by simp [dropReservation]

@[simp] theorem handoffNote_frame (id : PackId) (station : Nat) (o : HandoffOutcome) (s : State) :
    (handoffNote id station o s).link = s.link ∧ (handoffNote id station o s).peers = s.peers ∧ (handoffNote id station o s).bank = s.bank ∧ (handoffNote id station o s).engine = s.engine
      ∧ (handoffNote id station o s).residual = s.residual ∧ (handoffNote id station o s).atm = s.atm ∧ (handoffNote id station o s).zone = s.zone ∧ (handoffNote id station o s).tally = s.tally
      ∧ (handoffNote id station o s).port = s.port ∧ (handoffNote id station o s).start = s.start ∧ (handoffNote id station o s).cfg = s.cfg ∧ (handoffNote id station o s).uniqueId = s.uniqueId
      ∧ (handoffNote id station o s).draws = s.draws ∧ (handoffNote id station o s).pending = s.pending := by simp [handoffNote]

@[simp] theorem countUnmatched_frame (s : State) :
    (countUnmatched s).link = s.link ∧ (countUnmatched s).peers = s.peers ∧ (countUnmatched s).bank = s.bank ∧ (countUnmatched s).engine = s.engine
      ∧ (countUnmatched s).residual = s.residual ∧ (countUnmatched s).atm = s.atm ∧ (countUnmatched s).zone = s.zone ∧ (countUnmatched s).tally = s.tally
      ∧ (countUnmatched s).port = s.port ∧ (countUnmatched s).start = s.start ∧ (countUnmatched s).cfg = s.cfg ∧ (countUnmatched s).uniqueId = s.uniqueId
      ∧ (countUnmatched s).draws = s.draws ∧ (countUnmatched s).pending = s.pending := by simp [countUnmatched]

@[simp] theorem holdRecord_frame (id : PackId) (s : State) :
    (holdRecord id s).link = s.link ∧ (holdRecord id s).peers = s.peers ∧ (holdRecord id s).bank = s.bank ∧ (holdRecord id s).engine = s.engine
      ∧ (holdRecord id s).residual = s.residual ∧ (holdRecord id s).atm = s.atm ∧ (holdRecord id s).zone = s.zone ∧ (holdRecord id s).tally = s.tally
      ∧ (holdRecord id s).start = s.start ∧ (holdRecord id s).cfg = s.cfg ∧ (holdRecord id s).uniqueId = s.uniqueId ∧ (holdRecord id s).draws = s.draws
      ∧ (holdRecord id s).pending = s.pending := by
  unfold holdRecord; try dsimp only
  (repeat' split) <;> simp

@[simp] theorem placeCancel_frame (destination : Nat) (id : PackId) (offerNumber : Nat) (reason : CancelReason) (s : State) :
    (placeCancel destination id offerNumber reason s).peers = s.peers ∧ (placeCancel destination id offerNumber reason s).bank = s.bank ∧ (placeCancel destination id offerNumber reason s).store = s.store ∧ (placeCancel destination id offerNumber reason s).engine = s.engine
      ∧ (placeCancel destination id offerNumber reason s).residual = s.residual ∧ (placeCancel destination id offerNumber reason s).atm = s.atm ∧ (placeCancel destination id offerNumber reason s).zone = s.zone ∧ (placeCancel destination id offerNumber reason s).tally = s.tally
      ∧ (placeCancel destination id offerNumber reason s).port = s.port ∧ (placeCancel destination id offerNumber reason s).start = s.start ∧ (placeCancel destination id offerNumber reason s).cfg = s.cfg ∧ (placeCancel destination id offerNumber reason s).uniqueId = s.uniqueId
      ∧ (placeCancel destination id offerNumber reason s).draws = s.draws ∧ (placeCancel destination id offerNumber reason s).pending = s.pending := by simp [placeCancel]

@[simp] theorem placeGrant_frame (v : Reservation) (s : State) :
    (placeGrant v s).peers = s.peers ∧ (placeGrant v s).bank = s.bank ∧ (placeGrant v s).store = s.store ∧ (placeGrant v s).engine = s.engine
      ∧ (placeGrant v s).residual = s.residual ∧ (placeGrant v s).atm = s.atm ∧ (placeGrant v s).zone = s.zone ∧ (placeGrant v s).tally = s.tally
      ∧ (placeGrant v s).port = s.port ∧ (placeGrant v s).start = s.start ∧ (placeGrant v s).cfg = s.cfg ∧ (placeGrant v s).uniqueId = s.uniqueId
      ∧ (placeGrant v s).draws = s.draws ∧ (placeGrant v s).pending = s.pending := by simp [placeGrant]

@[simp] theorem placeTaken_frame (destination : Nat) (id : PackId) (offerNumber : Nat) (late : Bool) (s : State) :
    (placeTaken destination id offerNumber late s).peers = s.peers ∧ (placeTaken destination id offerNumber late s).bank = s.bank ∧ (placeTaken destination id offerNumber late s).store = s.store ∧ (placeTaken destination id offerNumber late s).engine = s.engine
      ∧ (placeTaken destination id offerNumber late s).residual = s.residual ∧ (placeTaken destination id offerNumber late s).atm = s.atm ∧ (placeTaken destination id offerNumber late s).zone = s.zone ∧ (placeTaken destination id offerNumber late s).tally = s.tally
      ∧ (placeTaken destination id offerNumber late s).port = s.port ∧ (placeTaken destination id offerNumber late s).start = s.start ∧ (placeTaken destination id offerNumber late s).cfg = s.cfg ∧ (placeTaken destination id offerNumber late s).uniqueId = s.uniqueId
      ∧ (placeTaken destination id offerNumber late s).draws = s.draws ∧ (placeTaken destination id offerNumber late s).pending = s.pending := by simp [placeTaken]

@[simp] theorem placeOffer_frame (r : PackRecord) (s : State) :
    (placeOffer r s).peers = s.peers ∧ (placeOffer r s).bank = s.bank ∧ (placeOffer r s).store = s.store ∧ (placeOffer r s).engine = s.engine
      ∧ (placeOffer r s).residual = s.residual ∧ (placeOffer r s).atm = s.atm ∧ (placeOffer r s).zone = s.zone ∧ (placeOffer r s).tally = s.tally
      ∧ (placeOffer r s).port = s.port ∧ (placeOffer r s).start = s.start ∧ (placeOffer r s).cfg = s.cfg ∧ (placeOffer r s).uniqueId = s.uniqueId
      ∧ (placeOffer r s).draws = s.draws ∧ (placeOffer r s).pending = s.pending := by simp [placeOffer]

@[simp] theorem raiseStreak_frame (n : Nat) (s : State) :
    (raiseStreak n s).link = s.link ∧ (raiseStreak n s).bank = s.bank ∧ (raiseStreak n s).engine = s.engine ∧ (raiseStreak n s).residual = s.residual
      ∧ (raiseStreak n s).atm = s.atm ∧ (raiseStreak n s).zone = s.zone ∧ (raiseStreak n s).tally = s.tally ∧ (raiseStreak n s).port = s.port
      ∧ (raiseStreak n s).start = s.start ∧ (raiseStreak n s).cfg = s.cfg ∧ (raiseStreak n s).uniqueId = s.uniqueId ∧ (raiseStreak n s).draws = s.draws
      ∧ (raiseStreak n s).pending = s.pending := by simp [raiseStreak]

@[simp] theorem clearStreak_frame (n : Nat) (s : State) :
    (clearStreak n s).link = s.link ∧ (clearStreak n s).bank = s.bank ∧ (clearStreak n s).store = s.store ∧ (clearStreak n s).engine = s.engine
      ∧ (clearStreak n s).residual = s.residual ∧ (clearStreak n s).atm = s.atm ∧ (clearStreak n s).zone = s.zone ∧ (clearStreak n s).tally = s.tally
      ∧ (clearStreak n s).port = s.port ∧ (clearStreak n s).start = s.start ∧ (clearStreak n s).cfg = s.cfg ∧ (clearStreak n s).uniqueId = s.uniqueId
      ∧ (clearStreak n s).draws = s.draws ∧ (clearStreak n s).pending = s.pending := by simp [clearStreak]

@[simp] theorem firstSend_frame (r : PackRecord) (destination : Nat) (s : State) :
    (firstSend r destination s).peers = s.peers ∧ (firstSend r destination s).bank = s.bank ∧ (firstSend r destination s).engine = s.engine ∧ (firstSend r destination s).residual = s.residual
      ∧ (firstSend r destination s).atm = s.atm ∧ (firstSend r destination s).zone = s.zone ∧ (firstSend r destination s).tally = s.tally ∧ (firstSend r destination s).port = s.port
      ∧ (firstSend r destination s).start = s.start ∧ (firstSend r destination s).cfg = s.cfg ∧ (firstSend r destination s).uniqueId = s.uniqueId ∧ (firstSend r destination s).draws = s.draws
      ∧ (firstSend r destination s).pending = s.pending := by simp [firstSend]

@[simp] theorem examineOffer_frame (divert : Bool) (s : State) :
    (examineOffer divert s).peers = s.peers ∧ (examineOffer divert s).bank = s.bank ∧ (examineOffer divert s).engine = s.engine ∧ (examineOffer divert s).residual = s.residual
      ∧ (examineOffer divert s).atm = s.atm ∧ (examineOffer divert s).zone = s.zone ∧ (examineOffer divert s).tally = s.tally ∧ (examineOffer divert s).port = s.port
      ∧ (examineOffer divert s).start = s.start ∧ (examineOffer divert s).cfg = s.cfg ∧ (examineOffer divert s).uniqueId = s.uniqueId ∧ (examineOffer divert s).draws = s.draws
      ∧ (examineOffer divert s).pending = s.pending := by
  unfold examineOffer; try dsimp only
  (repeat' split) <;> simp

@[simp] theorem createReservation_frame (h : HandoffHead) (p : PackData) (s : State) :
    (createReservation h p s).peers = s.peers ∧ (createReservation h p s).bank = s.bank ∧ (createReservation h p s).engine = s.engine ∧ (createReservation h p s).residual = s.residual
      ∧ (createReservation h p s).atm = s.atm ∧ (createReservation h p s).zone = s.zone ∧ (createReservation h p s).tally = s.tally ∧ (createReservation h p s).port = s.port
      ∧ (createReservation h p s).start = s.start ∧ (createReservation h p s).cfg = s.cfg ∧ (createReservation h p s).uniqueId = s.uniqueId ∧ (createReservation h p s).draws = s.draws
      ∧ (createReservation h p s).pending = s.pending := by simp [createReservation]

@[simp] theorem endExchanges_frame (n : Nat) (s : State) :
    (endExchanges n s).peers = s.peers ∧ (endExchanges n s).bank = s.bank ∧ (endExchanges n s).engine = s.engine ∧ (endExchanges n s).residual = s.residual
      ∧ (endExchanges n s).atm = s.atm ∧ (endExchanges n s).zone = s.zone ∧ (endExchanges n s).tally = s.tally ∧ (endExchanges n s).start = s.start
      ∧ (endExchanges n s).cfg = s.cfg ∧ (endExchanges n s).uniqueId = s.uniqueId ∧ (endExchanges n s).draws = s.draws ∧ (endExchanges n s).pending = s.pending := by
  unfold endExchanges; dsimp only
  refine foldl_keeps (P := fun (t : State) => t.peers = s.peers ∧ t.bank = s.bank ∧ t.engine = s.engine ∧ t.residual = s.residual ∧ t.atm = s.atm ∧ t.zone = s.zone ∧ t.tally = s.tally ∧ t.start = s.start ∧ t.cfg = s.cfg ∧ t.uniqueId = s.uniqueId ∧ t.draws = s.draws ∧ t.pending = s.pending) ?_ _ _ ?_
  · intro b a h; (split <;> simpa using h)
  · simp only [putRecords_frame]
    refine foldl_keeps (P := fun (t : State) => t.peers = s.peers ∧ t.bank = s.bank ∧ t.engine = s.engine ∧ t.residual = s.residual ∧ t.atm = s.atm ∧ t.zone = s.zone ∧ t.tally = s.tally ∧ t.start = s.start ∧ t.cfg = s.cfg ∧ t.uniqueId = s.uniqueId ∧ t.draws = s.draws ∧ t.pending = s.pending) ?_ _ _ ?_
    · intro b a h; simpa using h
    · simp

@[simp] theorem zoneAlarmCancel_frame (s : State) :
    (zoneAlarmCancel s).peers = s.peers ∧ (zoneAlarmCancel s).bank = s.bank ∧ (zoneAlarmCancel s).engine = s.engine ∧ (zoneAlarmCancel s).residual = s.residual
      ∧ (zoneAlarmCancel s).atm = s.atm ∧ (zoneAlarmCancel s).zone = s.zone ∧ (zoneAlarmCancel s).tally = s.tally ∧ (zoneAlarmCancel s).port = s.port
      ∧ (zoneAlarmCancel s).start = s.start ∧ (zoneAlarmCancel s).cfg = s.cfg ∧ (zoneAlarmCancel s).uniqueId = s.uniqueId ∧ (zoneAlarmCancel s).draws = s.draws
      ∧ (zoneAlarmCancel s).pending = s.pending := by
  unfold zoneAlarmCancel; dsimp only
  refine foldl_keeps (P := fun (t : State) => t.peers = s.peers ∧ t.bank = s.bank ∧ t.engine = s.engine ∧ t.residual = s.residual ∧ t.atm = s.atm ∧ t.zone = s.zone ∧ t.tally = s.tally ∧ t.port = s.port ∧ t.start = s.start ∧ t.cfg = s.cfg ∧ t.uniqueId = s.uniqueId ∧ t.draws = s.draws ∧ t.pending = s.pending) ?_ _ _ ?_
  · intro b a h; simpa using h
  · simp only [putReservations_frame]
    refine foldl_keeps (P := fun (t : State) => t.peers = s.peers ∧ t.bank = s.bank ∧ t.engine = s.engine ∧ t.residual = s.residual ∧ t.atm = s.atm ∧ t.zone = s.zone ∧ t.tally = s.tally ∧ t.port = s.port ∧ t.start = s.start ∧ t.cfg = s.cfg ∧ t.uniqueId = s.uniqueId ∧ t.draws = s.draws ∧ t.pending = s.pending) ?_ _ _ ?_
    · intro b a h; simpa using h
    · simp

@[simp] theorem computeResidual_frame (v : Int) (r : PackRecord) (s : State) :
    (computeResidual v r s).link = s.link ∧ (computeResidual v r s).peers = s.peers ∧ (computeResidual v r s).bank = s.bank ∧ (computeResidual v r s).engine = s.engine
      ∧ (computeResidual v r s).atm = s.atm ∧ (computeResidual v r s).zone = s.zone ∧ (computeResidual v r s).tally = s.tally ∧ (computeResidual v r s).port = s.port
      ∧ (computeResidual v r s).start = s.start ∧ (computeResidual v r s).cfg = s.cfg ∧ (computeResidual v r s).uniqueId = s.uniqueId ∧ (computeResidual v r s).draws = s.draws
      ∧ (computeResidual v r s).pending = s.pending := by
  unfold computeResidual; try dsimp only
  (repeat' split) <;> simp

@[simp] theorem onEngine_frame (f : Engine → Engine) (s : State) :
    (onEngine f s).link = s.link ∧ (onEngine f s).peers = s.peers ∧ (onEngine f s).bank = s.bank ∧ (onEngine f s).store = s.store
      ∧ (onEngine f s).residual = s.residual ∧ (onEngine f s).atm = s.atm ∧ (onEngine f s).zone = s.zone ∧ (onEngine f s).tally = s.tally
      ∧ (onEngine f s).port = s.port ∧ (onEngine f s).start = s.start ∧ (onEngine f s).cfg = s.cfg ∧ (onEngine f s).uniqueId = s.uniqueId
      ∧ (onEngine f s).draws = s.draws ∧ (onEngine f s).pending = s.pending := by simp [onEngine]

@[simp] theorem updateBound_frame (f : PackData → PackData) (s : State) :
    (updateBound f s).link = s.link ∧ (updateBound f s).peers = s.peers ∧ (updateBound f s).bank = s.bank ∧ (updateBound f s).engine = s.engine
      ∧ (updateBound f s).residual = s.residual ∧ (updateBound f s).atm = s.atm ∧ (updateBound f s).zone = s.zone ∧ (updateBound f s).tally = s.tally
      ∧ (updateBound f s).port = s.port ∧ (updateBound f s).start = s.start ∧ (updateBound f s).cfg = s.cfg ∧ (updateBound f s).uniqueId = s.uniqueId
      ∧ (updateBound f s).draws = s.draws ∧ (updateBound f s).pending = s.pending := by
  unfold updateBound; try dsimp only
  (repeat' split) <;> simp

@[simp] theorem recomputeTarget_frame (s : State) :
    (recomputeTarget s).link = s.link ∧ (recomputeTarget s).peers = s.peers ∧ (recomputeTarget s).bank = s.bank ∧ (recomputeTarget s).store = s.store
      ∧ (recomputeTarget s).residual = s.residual ∧ (recomputeTarget s).atm = s.atm ∧ (recomputeTarget s).zone = s.zone ∧ (recomputeTarget s).tally = s.tally
      ∧ (recomputeTarget s).port = s.port ∧ (recomputeTarget s).start = s.start ∧ (recomputeTarget s).cfg = s.cfg ∧ (recomputeTarget s).uniqueId = s.uniqueId
      ∧ (recomputeTarget s).draws = s.draws ∧ (recomputeTarget s).pending = s.pending := by
  unfold recomputeTarget; try dsimp only
  (repeat' split) <;> simp

@[simp] theorem recomputeUnderLoad_frame (s : State) :
    (recomputeUnderLoad s).link = s.link ∧ (recomputeUnderLoad s).peers = s.peers ∧ (recomputeUnderLoad s).bank = s.bank ∧ (recomputeUnderLoad s).store = s.store
      ∧ (recomputeUnderLoad s).residual = s.residual ∧ (recomputeUnderLoad s).atm = s.atm ∧ (recomputeUnderLoad s).zone = s.zone ∧ (recomputeUnderLoad s).tally = s.tally
      ∧ (recomputeUnderLoad s).port = s.port ∧ (recomputeUnderLoad s).start = s.start ∧ (recomputeUnderLoad s).cfg = s.cfg ∧ (recomputeUnderLoad s).uniqueId = s.uniqueId
      ∧ (recomputeUnderLoad s).draws = s.draws ∧ (recomputeUnderLoad s).pending = s.pending := by
  unfold recomputeUnderLoad; try dsimp only
  (repeat' split) <;> simp

@[simp] theorem enterRamp_frame (s : State) :
    (enterRamp s).link = s.link ∧ (enterRamp s).peers = s.peers ∧ (enterRamp s).bank = s.bank ∧ (enterRamp s).store = s.store
      ∧ (enterRamp s).residual = s.residual ∧ (enterRamp s).atm = s.atm ∧ (enterRamp s).zone = s.zone ∧ (enterRamp s).tally = s.tally
      ∧ (enterRamp s).port = s.port ∧ (enterRamp s).start = s.start ∧ (enterRamp s).cfg = s.cfg ∧ (enterRamp s).uniqueId = s.uniqueId
      ∧ (enterRamp s).draws = s.draws ∧ (enterRamp s).pending = s.pending := by simp [enterRamp]

@[simp] theorem beginUnload_frame (p : UnloadPurpose) (s : State) :
    (beginUnload p s).link = s.link ∧ (beginUnload p s).peers = s.peers ∧ (beginUnload p s).bank = s.bank ∧ (beginUnload p s).store = s.store
      ∧ (beginUnload p s).residual = s.residual ∧ (beginUnload p s).atm = s.atm ∧ (beginUnload p s).zone = s.zone ∧ (beginUnload p s).tally = s.tally
      ∧ (beginUnload p s).port = s.port ∧ (beginUnload p s).start = s.start ∧ (beginUnload p s).cfg = s.cfg ∧ (beginUnload p s).uniqueId = s.uniqueId
      ∧ (beginUnload p s).draws = s.draws ∧ (beginUnload p s).pending = s.pending := by simp [beginUnload]

@[simp] theorem orderUnload_frame (p : UnloadPurpose) (s : State) :
    (orderUnload p s).link = s.link ∧ (orderUnload p s).peers = s.peers ∧ (orderUnload p s).bank = s.bank ∧ (orderUnload p s).store = s.store
      ∧ (orderUnload p s).residual = s.residual ∧ (orderUnload p s).atm = s.atm ∧ (orderUnload p s).zone = s.zone ∧ (orderUnload p s).tally = s.tally
      ∧ (orderUnload p s).port = s.port ∧ (orderUnload p s).start = s.start ∧ (orderUnload p s).cfg = s.cfg ∧ (orderUnload p s).uniqueId = s.uniqueId
      ∧ (orderUnload p s).draws = s.draws ∧ (orderUnload p s).pending = s.pending := by
  unfold orderUnload; try dsimp only
  (repeat' split) <;> simp

@[simp] theorem enterIdle_frame (s : State) :
    (enterIdle s).link = s.link ∧ (enterIdle s).peers = s.peers ∧ (enterIdle s).bank = s.bank ∧ (enterIdle s).store = s.store
      ∧ (enterIdle s).residual = s.residual ∧ (enterIdle s).atm = s.atm ∧ (enterIdle s).zone = s.zone ∧ (enterIdle s).tally = s.tally
      ∧ (enterIdle s).port = s.port ∧ (enterIdle s).start = s.start ∧ (enterIdle s).cfg = s.cfg ∧ (enterIdle s).uniqueId = s.uniqueId
      ∧ (enterIdle s).draws = s.draws ∧ (enterIdle s).pending = s.pending := by simp [enterIdle]

@[simp] theorem handBack_frame (s : State) :
    (handBack s).link = s.link ∧ (handBack s).peers = s.peers ∧ (handBack s).bank = s.bank ∧ (handBack s).residual = s.residual
      ∧ (handBack s).atm = s.atm ∧ (handBack s).zone = s.zone ∧ (handBack s).tally = s.tally ∧ (handBack s).start = s.start
      ∧ (handBack s).cfg = s.cfg ∧ (handBack s).uniqueId = s.uniqueId ∧ (handBack s).draws = s.draws ∧ (handBack s).pending = s.pending := by
  unfold handBack; try dsimp only
  (repeat' split) <;> simp

@[simp] theorem endNote_frame (o : EndOutcome) (s : State) :
    (endNote o s).link = s.link ∧ (endNote o s).peers = s.peers ∧ (endNote o s).bank = s.bank ∧ (endNote o s).store = s.store
      ∧ (endNote o s).residual = s.residual ∧ (endNote o s).atm = s.atm ∧ (endNote o s).zone = s.zone ∧ (endNote o s).tally = s.tally
      ∧ (endNote o s).port = s.port ∧ (endNote o s).start = s.start ∧ (endNote o s).cfg = s.cfg ∧ (endNote o s).uniqueId = s.uniqueId
      ∧ (endNote o s).draws = s.draws ∧ (endNote o s).pending = s.pending := by
  unfold endNote; try dsimp only
  (repeat' split) <;> simp

@[simp] theorem enterFault_frame (c : FaultCause) (s : State) :
    (enterFault c s).link = s.link ∧ (enterFault c s).peers = s.peers ∧ (enterFault c s).bank = s.bank ∧ (enterFault c s).residual = s.residual
      ∧ (enterFault c s).atm = s.atm ∧ (enterFault c s).zone = s.zone ∧ (enterFault c s).tally = s.tally ∧ (enterFault c s).start = s.start
      ∧ (enterFault c s).cfg = s.cfg ∧ (enterFault c s).uniqueId = s.uniqueId ∧ (enterFault c s).draws = s.draws ∧ (enterFault c s).pending = s.pending := by simp [enterFault]

@[simp] theorem engineTakesLevel_frame (old new : ZoneLevel) (s : State) :
    (engineTakesLevel old new s).link = s.link ∧ (engineTakesLevel old new s).peers = s.peers ∧ (engineTakesLevel old new s).bank = s.bank ∧ (engineTakesLevel old new s).store = s.store
      ∧ (engineTakesLevel old new s).residual = s.residual ∧ (engineTakesLevel old new s).atm = s.atm ∧ (engineTakesLevel old new s).zone = s.zone ∧ (engineTakesLevel old new s).tally = s.tally
      ∧ (engineTakesLevel old new s).port = s.port ∧ (engineTakesLevel old new s).start = s.start ∧ (engineTakesLevel old new s).cfg = s.cfg ∧ (engineTakesLevel old new s).uniqueId = s.uniqueId
      ∧ (engineTakesLevel old new s).draws = s.draws ∧ (engineTakesLevel old new s).pending = s.pending := by
  unfold engineTakesLevel; try dsimp only
  (repeat' split) <;> simp

@[simp] theorem takeMeasurementLoss_frame (s : State) :
    (takeMeasurementLoss s).link = s.link ∧ (takeMeasurementLoss s).peers = s.peers ∧ (takeMeasurementLoss s).bank = s.bank ∧ (takeMeasurementLoss s).store = s.store
      ∧ (takeMeasurementLoss s).residual = s.residual ∧ (takeMeasurementLoss s).atm = s.atm ∧ (takeMeasurementLoss s).zone = s.zone ∧ (takeMeasurementLoss s).tally = s.tally
      ∧ (takeMeasurementLoss s).port = s.port ∧ (takeMeasurementLoss s).start = s.start ∧ (takeMeasurementLoss s).cfg = s.cfg ∧ (takeMeasurementLoss s).uniqueId = s.uniqueId
      ∧ (takeMeasurementLoss s).draws = s.draws ∧ (takeMeasurementLoss s).pending = s.pending := by
  unfold takeMeasurementLoss; try dsimp only
  (repeat' split) <;> simp

@[simp] theorem takeRampStep_frame (s : State) :
    (takeRampStep s).link = s.link ∧ (takeRampStep s).peers = s.peers ∧ (takeRampStep s).bank = s.bank ∧ (takeRampStep s).store = s.store
      ∧ (takeRampStep s).residual = s.residual ∧ (takeRampStep s).atm = s.atm ∧ (takeRampStep s).zone = s.zone ∧ (takeRampStep s).tally = s.tally
      ∧ (takeRampStep s).port = s.port ∧ (takeRampStep s).start = s.start ∧ (takeRampStep s).cfg = s.cfg ∧ (takeRampStep s).uniqueId = s.uniqueId
      ∧ (takeRampStep s).draws = s.draws ∧ (takeRampStep s).pending = s.pending := by
  unfold takeRampStep; try dsimp only
  (repeat' split) <;> simp

@[simp] theorem takeUnloadComplete_frame (s : State) :
    (takeUnloadComplete s).link = s.link ∧ (takeUnloadComplete s).peers = s.peers ∧ (takeUnloadComplete s).bank = s.bank ∧ (takeUnloadComplete s).residual = s.residual
      ∧ (takeUnloadComplete s).atm = s.atm ∧ (takeUnloadComplete s).zone = s.zone ∧ (takeUnloadComplete s).tally = s.tally ∧ (takeUnloadComplete s).start = s.start
      ∧ (takeUnloadComplete s).cfg = s.cfg ∧ (takeUnloadComplete s).uniqueId = s.uniqueId ∧ (takeUnloadComplete s).draws = s.draws ∧ (takeUnloadComplete s).pending = s.pending := by
  unfold takeUnloadComplete; try dsimp only
  (repeat' split) <;> simp

@[simp] theorem takeRestCurrentFault_frame (s : State) :
    (takeRestCurrentFault s).link = s.link ∧ (takeRestCurrentFault s).peers = s.peers ∧ (takeRestCurrentFault s).bank = s.bank ∧ (takeRestCurrentFault s).store = s.store
      ∧ (takeRestCurrentFault s).residual = s.residual ∧ (takeRestCurrentFault s).atm = s.atm ∧ (takeRestCurrentFault s).zone = s.zone ∧ (takeRestCurrentFault s).tally = s.tally
      ∧ (takeRestCurrentFault s).port = s.port ∧ (takeRestCurrentFault s).start = s.start ∧ (takeRestCurrentFault s).cfg = s.cfg ∧ (takeRestCurrentFault s).uniqueId = s.uniqueId
      ∧ (takeRestCurrentFault s).draws = s.draws ∧ (takeRestCurrentFault s).pending = s.pending := by
  unfold takeRestCurrentFault; try dsimp only
  (repeat' split) <;> simp

@[simp] theorem takeLoadStuck_frame (s : State) :
    (takeLoadStuck s).link = s.link ∧ (takeLoadStuck s).peers = s.peers ∧ (takeLoadStuck s).bank = s.bank ∧ (takeLoadStuck s).store = s.store
      ∧ (takeLoadStuck s).residual = s.residual ∧ (takeLoadStuck s).atm = s.atm ∧ (takeLoadStuck s).zone = s.zone ∧ (takeLoadStuck s).tally = s.tally
      ∧ (takeLoadStuck s).start = s.start ∧ (takeLoadStuck s).cfg = s.cfg ∧ (takeLoadStuck s).uniqueId = s.uniqueId ∧ (takeLoadStuck s).draws = s.draws
      ∧ (takeLoadStuck s).pending = s.pending := by
  unfold takeLoadStuck; try dsimp only
  (repeat' split) <;> simp

@[simp] theorem takeSettleTimeout_frame (s : State) :
    (takeSettleTimeout s).link = s.link ∧ (takeSettleTimeout s).peers = s.peers ∧ (takeSettleTimeout s).bank = s.bank ∧ (takeSettleTimeout s).store = s.store
      ∧ (takeSettleTimeout s).residual = s.residual ∧ (takeSettleTimeout s).atm = s.atm ∧ (takeSettleTimeout s).zone = s.zone ∧ (takeSettleTimeout s).tally = s.tally
      ∧ (takeSettleTimeout s).port = s.port ∧ (takeSettleTimeout s).start = s.start ∧ (takeSettleTimeout s).cfg = s.cfg ∧ (takeSettleTimeout s).uniqueId = s.uniqueId
      ∧ (takeSettleTimeout s).draws = s.draws ∧ (takeSettleTimeout s).pending = s.pending := by
  unfold takeSettleTimeout; try dsimp only
  (repeat' split) <;> simp

@[simp] theorem releasePack_frame (r : PackRecord) (s : State) :
    (releasePack r s).link = s.link ∧ (releasePack r s).peers = s.peers ∧ (releasePack r s).bank = s.bank ∧ (releasePack r s).residual = s.residual
      ∧ (releasePack r s).atm = s.atm ∧ (releasePack r s).zone = s.zone ∧ (releasePack r s).start = s.start ∧ (releasePack r s).cfg = s.cfg
      ∧ (releasePack r s).uniqueId = s.uniqueId ∧ (releasePack r s).draws = s.draws ∧ (releasePack r s).pending = s.pending := by simp [releasePack]

@[simp] theorem failRound_frame (r : PackRecord) (s : State) :
    (failRound r s).link = s.link ∧ (failRound r s).peers = s.peers ∧ (failRound r s).bank = s.bank ∧ (failRound r s).residual = s.residual
      ∧ (failRound r s).atm = s.atm ∧ (failRound r s).zone = s.zone ∧ (failRound r s).tally = s.tally ∧ (failRound r s).start = s.start
      ∧ (failRound r s).cfg = s.cfg ∧ (failRound r s).uniqueId = s.uniqueId ∧ (failRound r s).draws = s.draws ∧ (failRound r s).pending = s.pending := by
  unfold failRound; try dsimp only
  (repeat' split) <;> simp

@[simp] theorem takeRestTimerExpiry_frame (s : State) :
    (takeRestTimerExpiry s).link = s.link ∧ (takeRestTimerExpiry s).peers = s.peers ∧ (takeRestTimerExpiry s).bank = s.bank ∧ (takeRestTimerExpiry s).atm = s.atm
      ∧ (takeRestTimerExpiry s).zone = s.zone ∧ (takeRestTimerExpiry s).start = s.start ∧ (takeRestTimerExpiry s).cfg = s.cfg ∧ (takeRestTimerExpiry s).uniqueId = s.uniqueId
      ∧ (takeRestTimerExpiry s).draws = s.draws ∧ (takeRestTimerExpiry s).pending = s.pending := by
  unfold takeRestTimerExpiry; try dsimp only
  (repeat' split) <;> simp

@[simp] theorem connectCheck_frame (m : Reading) (r : PackRecord) (s : State) :
    (connectCheck m r s).link = s.link ∧ (connectCheck m r s).peers = s.peers ∧ (connectCheck m r s).bank = s.bank ∧ (connectCheck m r s).residual = s.residual
      ∧ (connectCheck m r s).atm = s.atm ∧ (connectCheck m r s).zone = s.zone ∧ (connectCheck m r s).tally = s.tally ∧ (connectCheck m r s).start = s.start
      ∧ (connectCheck m r s).cfg = s.cfg ∧ (connectCheck m r s).uniqueId = s.uniqueId ∧ (connectCheck m r s).draws = s.draws ∧ (connectCheck m r s).pending = s.pending := by
  unfold connectCheck; try dsimp only
  (repeat' split) <;> simp

@[simp] theorem feedNote_frame (id : PackId) (o : FeedOutcome) (s : State) :
    (feedNote id o s).link = s.link ∧ (feedNote id o s).peers = s.peers ∧ (feedNote id o s).bank = s.bank ∧ (feedNote id o s).store = s.store
      ∧ (feedNote id o s).engine = s.engine ∧ (feedNote id o s).residual = s.residual ∧ (feedNote id o s).zone = s.zone ∧ (feedNote id o s).tally = s.tally
      ∧ (feedNote id o s).port = s.port ∧ (feedNote id o s).start = s.start ∧ (feedNote id o s).cfg = s.cfg ∧ (feedNote id o s).uniqueId = s.uniqueId
      ∧ (feedNote id o s).draws = s.draws ∧ (feedNote id o s).pending = s.pending := by simp [feedNote]

@[simp] theorem dropFeed_frame (c : PermitLoss) (s : State) :
    (dropFeed c s).link = s.link ∧ (dropFeed c s).peers = s.peers ∧ (dropFeed c s).bank = s.bank ∧ (dropFeed c s).store = s.store
      ∧ (dropFeed c s).engine = s.engine ∧ (dropFeed c s).residual = s.residual ∧ (dropFeed c s).zone = s.zone ∧ (dropFeed c s).tally = s.tally
      ∧ (dropFeed c s).port = s.port ∧ (dropFeed c s).start = s.start ∧ (dropFeed c s).cfg = s.cfg ∧ (dropFeed c s).uniqueId = s.uniqueId
      ∧ (dropFeed c s).draws = s.draws ∧ (dropFeed c s).pending = s.pending := by
  unfold dropFeed; try dsimp only
  (repeat' split) <;> simp

@[simp] theorem judgeSensors_frame (s : State) :
    (judgeSensors s).link = s.link ∧ (judgeSensors s).peers = s.peers ∧ (judgeSensors s).bank = s.bank ∧ (judgeSensors s).store = s.store
      ∧ (judgeSensors s).engine = s.engine ∧ (judgeSensors s).residual = s.residual ∧ (judgeSensors s).zone = s.zone ∧ (judgeSensors s).port = s.port
      ∧ (judgeSensors s).start = s.start ∧ (judgeSensors s).cfg = s.cfg ∧ (judgeSensors s).uniqueId = s.uniqueId ∧ (judgeSensors s).draws = s.draws
      ∧ (judgeSensors s).pending = s.pending := by
  unfold judgeSensors; try dsimp only
  (repeat' split) <;> simp

@[simp] theorem noteAtm_frame (c : AtmNoteCause) (s : State) :
    (noteAtm c s).link = s.link ∧ (noteAtm c s).peers = s.peers ∧ (noteAtm c s).bank = s.bank ∧ (noteAtm c s).store = s.store
      ∧ (noteAtm c s).engine = s.engine ∧ (noteAtm c s).residual = s.residual ∧ (noteAtm c s).zone = s.zone ∧ (noteAtm c s).tally = s.tally
      ∧ (noteAtm c s).start = s.start ∧ (noteAtm c s).cfg = s.cfg ∧ (noteAtm c s).uniqueId = s.uniqueId ∧ (noteAtm c s).draws = s.draws
      ∧ (noteAtm c s).pending = s.pending := by simp [noteAtm]

@[simp] theorem changeAtm_frame (st : AtmState) (c : AtmNoteCause) (s : State) :
    (changeAtm st c s).link = s.link ∧ (changeAtm st c s).peers = s.peers ∧ (changeAtm st c s).bank = s.bank ∧ (changeAtm st c s).engine = s.engine
      ∧ (changeAtm st c s).residual = s.residual ∧ (changeAtm st c s).zone = s.zone ∧ (changeAtm st c s).start = s.start ∧ (changeAtm st c s).cfg = s.cfg
      ∧ (changeAtm st c s).uniqueId = s.uniqueId ∧ (changeAtm st c s).draws = s.draws ∧ (changeAtm st c s).pending = s.pending := by
  unfold changeAtm; try dsimp only
  (repeat' split) <;> simp

@[simp] theorem stopPurgeTimer_frame (s : State) :
    (stopPurgeTimer s).link = s.link ∧ (stopPurgeTimer s).peers = s.peers ∧ (stopPurgeTimer s).bank = s.bank ∧ (stopPurgeTimer s).store = s.store
      ∧ (stopPurgeTimer s).engine = s.engine ∧ (stopPurgeTimer s).residual = s.residual ∧ (stopPurgeTimer s).zone = s.zone ∧ (stopPurgeTimer s).tally = s.tally
      ∧ (stopPurgeTimer s).port = s.port ∧ (stopPurgeTimer s).start = s.start ∧ (stopPurgeTimer s).cfg = s.cfg ∧ (stopPurgeTimer s).uniqueId = s.uniqueId
      ∧ (stopPurgeTimer s).draws = s.draws ∧ (stopPurgeTimer s).pending = s.pending := by simp [stopPurgeTimer]

@[simp] theorem enterTrip_frame (c : TripCause) (s : State) :
    (enterTrip c s).link = s.link ∧ (enterTrip c s).peers = s.peers ∧ (enterTrip c s).bank = s.bank ∧ (enterTrip c s).engine = s.engine
      ∧ (enterTrip c s).residual = s.residual ∧ (enterTrip c s).zone = s.zone ∧ (enterTrip c s).start = s.start ∧ (enterTrip c s).cfg = s.cfg
      ∧ (enterTrip c s).uniqueId = s.uniqueId ∧ (enterTrip c s).draws = s.draws ∧ (enterTrip c s).pending = s.pending := by simp [enterTrip]

@[simp] theorem enterPurging_frame (s : State) :
    (enterPurging s).link = s.link ∧ (enterPurging s).peers = s.peers ∧ (enterPurging s).bank = s.bank ∧ (enterPurging s).engine = s.engine
      ∧ (enterPurging s).residual = s.residual ∧ (enterPurging s).zone = s.zone ∧ (enterPurging s).start = s.start ∧ (enterPurging s).cfg = s.cfg
      ∧ (enterPurging s).uniqueId = s.uniqueId ∧ (enterPurging s).draws = s.draws ∧ (enterPurging s).pending = s.pending := by simp [enterPurging]

@[simp] theorem enterOpen_frame (s : State) :
    (enterOpen s).link = s.link ∧ (enterOpen s).peers = s.peers ∧ (enterOpen s).bank = s.bank ∧ (enterOpen s).engine = s.engine
      ∧ (enterOpen s).residual = s.residual ∧ (enterOpen s).zone = s.zone ∧ (enterOpen s).start = s.start ∧ (enterOpen s).cfg = s.cfg
      ∧ (enterOpen s).uniqueId = s.uniqueId ∧ (enterOpen s).draws = s.draws ∧ (enterOpen s).pending = s.pending := by simp [enterOpen]

@[simp] theorem testInert_frame (s : State) :
    (testInert s).link = s.link ∧ (testInert s).peers = s.peers ∧ (testInert s).bank = s.bank ∧ (testInert s).engine = s.engine
      ∧ (testInert s).residual = s.residual ∧ (testInert s).zone = s.zone ∧ (testInert s).start = s.start ∧ (testInert s).cfg = s.cfg
      ∧ (testInert s).uniqueId = s.uniqueId ∧ (testInert s).draws = s.draws ∧ (testInert s).pending = s.pending := by
  unfold testInert; try dsimp only
  (repeat' split) <;> simp

@[simp] theorem testPurging_frame (s : State) :
    (testPurging s).link = s.link ∧ (testPurging s).peers = s.peers ∧ (testPurging s).bank = s.bank ∧ (testPurging s).engine = s.engine
      ∧ (testPurging s).residual = s.residual ∧ (testPurging s).zone = s.zone ∧ (testPurging s).start = s.start ∧ (testPurging s).cfg = s.cfg
      ∧ (testPurging s).uniqueId = s.uniqueId ∧ (testPurging s).draws = s.draws ∧ (testPurging s).pending = s.pending := by
  unfold testPurging; try dsimp only
  (repeat' split) <;> simp

@[simp] theorem changeSupply_frame (x : Supply) (n : SupplyNote) (s : State) :
    (changeSupply x n s).link = s.link ∧ (changeSupply x n s).peers = s.peers ∧ (changeSupply x n s).bank = s.bank ∧ (changeSupply x n s).store = s.store
      ∧ (changeSupply x n s).engine = s.engine ∧ (changeSupply x n s).residual = s.residual ∧ (changeSupply x n s).zone = s.zone ∧ (changeSupply x n s).tally = s.tally
      ∧ (changeSupply x n s).start = s.start ∧ (changeSupply x n s).cfg = s.cfg ∧ (changeSupply x n s).uniqueId = s.uniqueId ∧ (changeSupply x n s).draws = s.draws
      ∧ (changeSupply x n s).pending = s.pending := by simp [changeSupply]

@[simp] theorem takeSupply_frame (s : State) :
    (takeSupply s).link = s.link ∧ (takeSupply s).peers = s.peers ∧ (takeSupply s).bank = s.bank ∧ (takeSupply s).store = s.store
      ∧ (takeSupply s).engine = s.engine ∧ (takeSupply s).residual = s.residual ∧ (takeSupply s).zone = s.zone ∧ (takeSupply s).tally = s.tally
      ∧ (takeSupply s).start = s.start ∧ (takeSupply s).cfg = s.cfg ∧ (takeSupply s).uniqueId = s.uniqueId ∧ (takeSupply s).draws = s.draws
      ∧ (takeSupply s).pending = s.pending := by
  unfold takeSupply; try dsimp only
  (repeat' split) <;> simp

@[simp] theorem atmosphereHandover_frame (s : State) :
    (atmosphereHandover s).link = s.link ∧ (atmosphereHandover s).peers = s.peers ∧ (atmosphereHandover s).bank = s.bank ∧ (atmosphereHandover s).engine = s.engine
      ∧ (atmosphereHandover s).residual = s.residual ∧ (atmosphereHandover s).zone = s.zone ∧ (atmosphereHandover s).start = s.start ∧ (atmosphereHandover s).cfg = s.cfg
      ∧ (atmosphereHandover s).uniqueId = s.uniqueId ∧ (atmosphereHandover s).draws = s.draws ∧ (atmosphereHandover s).pending = s.pending := by
  unfold atmosphereHandover; try dsimp only
  (repeat' split) <;> simp

@[simp] theorem noteZone_frame (o : Origin) (s : State) :
    (noteZone o s).link = s.link ∧ (noteZone o s).peers = s.peers ∧ (noteZone o s).bank = s.bank ∧ (noteZone o s).store = s.store
      ∧ (noteZone o s).engine = s.engine ∧ (noteZone o s).residual = s.residual ∧ (noteZone o s).atm = s.atm ∧ (noteZone o s).tally = s.tally
      ∧ (noteZone o s).start = s.start ∧ (noteZone o s).cfg = s.cfg ∧ (noteZone o s).uniqueId = s.uniqueId ∧ (noteZone o s).draws = s.draws
      ∧ (noteZone o s).pending = s.pending := by simp [noteZone]

@[simp] theorem storeTakesLevel_frame (old new : ZoneLevel) (s : State) :
    (storeTakesLevel old new s).peers = s.peers ∧ (storeTakesLevel old new s).bank = s.bank ∧ (storeTakesLevel old new s).engine = s.engine ∧ (storeTakesLevel old new s).residual = s.residual
      ∧ (storeTakesLevel old new s).atm = s.atm ∧ (storeTakesLevel old new s).zone = s.zone ∧ (storeTakesLevel old new s).tally = s.tally ∧ (storeTakesLevel old new s).port = s.port
      ∧ (storeTakesLevel old new s).start = s.start ∧ (storeTakesLevel old new s).cfg = s.cfg ∧ (storeTakesLevel old new s).uniqueId = s.uniqueId ∧ (storeTakesLevel old new s).draws = s.draws
      ∧ (storeTakesLevel old new s).pending = s.pending := by
  unfold storeTakesLevel; try dsimp only
  (repeat' split) <;> simp

@[simp] theorem tallyTakesLevel_frame (old new : ZoneLevel) (s : State) :
    (tallyTakesLevel old new s).link = s.link ∧ (tallyTakesLevel old new s).peers = s.peers ∧ (tallyTakesLevel old new s).bank = s.bank ∧ (tallyTakesLevel old new s).store = s.store
      ∧ (tallyTakesLevel old new s).engine = s.engine ∧ (tallyTakesLevel old new s).residual = s.residual ∧ (tallyTakesLevel old new s).atm = s.atm ∧ (tallyTakesLevel old new s).zone = s.zone
      ∧ (tallyTakesLevel old new s).start = s.start ∧ (tallyTakesLevel old new s).cfg = s.cfg ∧ (tallyTakesLevel old new s).uniqueId = s.uniqueId ∧ (tallyTakesLevel old new s).draws = s.draws
      ∧ (tallyTakesLevel old new s).pending = s.pending := by
  unfold tallyTakesLevel; try dsimp only
  (repeat' split) <;> simp

@[simp] theorem changeLevel_frame (l : ZoneLevel) (flag : Bool) (cause : Option ZoneCause) (o : Origin) (s : State) :
    (changeLevel l flag cause o s).peers = s.peers ∧ (changeLevel l flag cause o s).bank = s.bank ∧ (changeLevel l flag cause o s).residual = s.residual ∧ (changeLevel l flag cause o s).start = s.start
      ∧ (changeLevel l flag cause o s).cfg = s.cfg ∧ (changeLevel l flag cause o s).uniqueId = s.uniqueId ∧ (changeLevel l flag cause o s).draws = s.draws ∧ (changeLevel l flag cause o s).pending = s.pending := by
  unfold changeLevel; try dsimp only
  (repeat' split) <;> simp

@[simp] theorem confirmRise_frame (cause : ZoneCause) (o : Origin) (s : State) :
    (confirmRise cause o s).peers = s.peers ∧ (confirmRise cause o s).bank = s.bank ∧ (confirmRise cause o s).residual = s.residual ∧ (confirmRise cause o s).start = s.start
      ∧ (confirmRise cause o s).cfg = s.cfg ∧ (confirmRise cause o s).uniqueId = s.uniqueId ∧ (confirmRise cause o s).draws = s.draws ∧ (confirmRise cause o s).pending = s.pending := by
  unfold confirmRise; try dsimp only
  (repeat' split) <;> simp

@[simp] theorem refreshStrict_frame (s : State) :
    (refreshStrict s).link = s.link ∧ (refreshStrict s).peers = s.peers ∧ (refreshStrict s).bank = s.bank ∧ (refreshStrict s).store = s.store
      ∧ (refreshStrict s).engine = s.engine ∧ (refreshStrict s).residual = s.residual ∧ (refreshStrict s).atm = s.atm ∧ (refreshStrict s).tally = s.tally
      ∧ (refreshStrict s).port = s.port ∧ (refreshStrict s).start = s.start ∧ (refreshStrict s).cfg = s.cfg ∧ (refreshStrict s).uniqueId = s.uniqueId
      ∧ (refreshStrict s).draws = s.draws ∧ (refreshStrict s).pending = s.pending := by simp [refreshStrict]

@[simp] theorem clearTestFlag_frame (s : State) :
    (clearTestFlag s).peers = s.peers ∧ (clearTestFlag s).bank = s.bank ∧ (clearTestFlag s).store = s.store ∧ (clearTestFlag s).engine = s.engine
      ∧ (clearTestFlag s).residual = s.residual ∧ (clearTestFlag s).atm = s.atm ∧ (clearTestFlag s).tally = s.tally ∧ (clearTestFlag s).start = s.start
      ∧ (clearTestFlag s).cfg = s.cfg ∧ (clearTestFlag s).uniqueId = s.uniqueId ∧ (clearTestFlag s).draws = s.draws ∧ (clearTestFlag s).pending = s.pending := by simp [clearTestFlag]

@[simp] theorem risingEvaluation_frame (s : State) :
    (risingEvaluation s).peers = s.peers ∧ (risingEvaluation s).bank = s.bank ∧ (risingEvaluation s).residual = s.residual ∧ (risingEvaluation s).start = s.start
      ∧ (risingEvaluation s).cfg = s.cfg ∧ (risingEvaluation s).uniqueId = s.uniqueId ∧ (risingEvaluation s).draws = s.draws ∧ (risingEvaluation s).pending = s.pending := by
  unfold risingEvaluation; try dsimp only
  (repeat' split) <;> simp

@[simp] theorem strictChanged_frame (s : State) :
    (strictChanged s).peers = s.peers ∧ (strictChanged s).bank = s.bank ∧ (strictChanged s).residual = s.residual ∧ (strictChanged s).start = s.start
      ∧ (strictChanged s).cfg = s.cfg ∧ (strictChanged s).uniqueId = s.uniqueId ∧ (strictChanged s).draws = s.draws ∧ (strictChanged s).pending = s.pending := by
  unfold strictChanged; try dsimp only
  (repeat' split) <;> simp

@[simp] theorem zoneTakesStore_frame (s : State) :
    (zoneTakesStore s).peers = s.peers ∧ (zoneTakesStore s).bank = s.bank ∧ (zoneTakesStore s).residual = s.residual ∧ (zoneTakesStore s).start = s.start
      ∧ (zoneTakesStore s).cfg = s.cfg ∧ (zoneTakesStore s).uniqueId = s.uniqueId ∧ (zoneTakesStore s).draws = s.draws ∧ (zoneTakesStore s).pending = s.pending := by simp [zoneTakesStore]

@[simp] theorem memberRise_frame (l : ZoneLevel) (o : Origin) (s : State) :
    (memberRise l o s).peers = s.peers ∧ (memberRise l o s).bank = s.bank ∧ (memberRise l o s).residual = s.residual ∧ (memberRise l o s).start = s.start
      ∧ (memberRise l o s).cfg = s.cfg ∧ (memberRise l o s).uniqueId = s.uniqueId ∧ (memberRise l o s).draws = s.draws ∧ (memberRise l o s).pending = s.pending := by
  unfold memberRise; try dsimp only
  (repeat' split) <;> simp

@[simp] theorem peerHandover_frame (n : Nat) (s : State) :
    (peerHandover n s).peers = s.peers ∧ (peerHandover n s).bank = s.bank ∧ (peerHandover n s).residual = s.residual ∧ (peerHandover n s).start = s.start
      ∧ (peerHandover n s).cfg = s.cfg ∧ (peerHandover n s).uniqueId = s.uniqueId ∧ (peerHandover n s).draws = s.draws ∧ (peerHandover n s).pending = s.pending := by
  unfold peerHandover; try dsimp only
  (repeat' split) <;> simp

@[simp] theorem takeCountdown_frame (s : State) :
    (takeCountdown s).link = s.link ∧ (takeCountdown s).peers = s.peers ∧ (takeCountdown s).bank = s.bank ∧ (takeCountdown s).store = s.store
      ∧ (takeCountdown s).engine = s.engine ∧ (takeCountdown s).residual = s.residual ∧ (takeCountdown s).atm = s.atm ∧ (takeCountdown s).tally = s.tally
      ∧ (takeCountdown s).port = s.port ∧ (takeCountdown s).start = s.start ∧ (takeCountdown s).cfg = s.cfg ∧ (takeCountdown s).uniqueId = s.uniqueId
      ∧ (takeCountdown s).draws = s.draws ∧ (takeCountdown s).pending = s.pending := by
  unfold takeCountdown; try dsimp only
  (repeat' split) <;> simp

@[simp] theorem zoneHandover_frame (s : State) :
    (zoneHandover s).peers = s.peers ∧ (zoneHandover s).bank = s.bank ∧ (zoneHandover s).residual = s.residual ∧ (zoneHandover s).start = s.start
      ∧ (zoneHandover s).cfg = s.cfg ∧ (zoneHandover s).uniqueId = s.uniqueId ∧ (zoneHandover s).draws = s.draws ∧ (zoneHandover s).pending = s.pending := by
  unfold zoneHandover; try dsimp only
  (repeat' split) <;> simp

@[simp] theorem takeCountdownEnd_frame (s : State) :
    (takeCountdownEnd s).peers = s.peers ∧ (takeCountdownEnd s).bank = s.bank ∧ (takeCountdownEnd s).residual = s.residual ∧ (takeCountdownEnd s).start = s.start
      ∧ (takeCountdownEnd s).cfg = s.cfg ∧ (takeCountdownEnd s).uniqueId = s.uniqueId ∧ (takeCountdownEnd s).draws = s.draws ∧ (takeCountdownEnd s).pending = s.pending := by
  unfold takeCountdownEnd; try dsimp only
  (repeat' split) <;> simp

@[simp] theorem isolationAlarm_frame (s : State) :
    (isolationAlarm s).peers = s.peers ∧ (isolationAlarm s).bank = s.bank ∧ (isolationAlarm s).residual = s.residual ∧ (isolationAlarm s).start = s.start
      ∧ (isolationAlarm s).cfg = s.cfg ∧ (isolationAlarm s).uniqueId = s.uniqueId ∧ (isolationAlarm s).draws = s.draws ∧ (isolationAlarm s).pending = s.pending := by simp [isolationAlarm]

@[simp] theorem isolationFailed_frame (s : State) :
    (isolationFailed s).peers = s.peers ∧ (isolationFailed s).bank = s.bank ∧ (isolationFailed s).residual = s.residual ∧ (isolationFailed s).start = s.start
      ∧ (isolationFailed s).cfg = s.cfg ∧ (isolationFailed s).uniqueId = s.uniqueId ∧ (isolationFailed s).draws = s.draws ∧ (isolationFailed s).pending = s.pending := by simp [isolationFailed]

@[simp] theorem isolateCheck_frame (s : State) :
    (isolateCheck s).peers = s.peers ∧ (isolateCheck s).bank = s.bank ∧ (isolateCheck s).residual = s.residual ∧ (isolateCheck s).start = s.start
      ∧ (isolateCheck s).cfg = s.cfg ∧ (isolateCheck s).uniqueId = s.uniqueId ∧ (isolateCheck s).draws = s.draws ∧ (isolateCheck s).pending = s.pending := by
  unfold isolateCheck; try dsimp only
  (repeat' split) <;> simp

@[simp] theorem takeContactorCheck_frame (s : State) :
    (takeContactorCheck s).peers = s.peers ∧ (takeContactorCheck s).bank = s.bank ∧ (takeContactorCheck s).residual = s.residual ∧ (takeContactorCheck s).start = s.start
      ∧ (takeContactorCheck s).cfg = s.cfg ∧ (takeContactorCheck s).uniqueId = s.uniqueId ∧ (takeContactorCheck s).draws = s.draws ∧ (takeContactorCheck s).pending = s.pending := by
  unfold takeContactorCheck; try dsimp only
  (repeat' split) <;> simp

@[simp] theorem endAttempt_frame (a : Attempt) (s : State) :
    (endAttempt a s).peers = s.peers ∧ (endAttempt a s).bank = s.bank ∧ (endAttempt a s).store = s.store ∧ (endAttempt a s).engine = s.engine
      ∧ (endAttempt a s).residual = s.residual ∧ (endAttempt a s).atm = s.atm ∧ (endAttempt a s).zone = s.zone ∧ (endAttempt a s).tally = s.tally
      ∧ (endAttempt a s).port = s.port ∧ (endAttempt a s).start = s.start ∧ (endAttempt a s).cfg = s.cfg ∧ (endAttempt a s).uniqueId = s.uniqueId
      ∧ (endAttempt a s).draws = s.draws ∧ (endAttempt a s).pending = s.pending := by
  unfold endAttempt; try dsimp only
  (repeat' split) <;> simp

@[simp] theorem completeAttempt_frame (a : Attempt) (s : State) :
    (completeAttempt a s).peers = s.peers ∧ (completeAttempt a s).bank = s.bank ∧ (completeAttempt a s).store = s.store ∧ (completeAttempt a s).engine = s.engine
      ∧ (completeAttempt a s).residual = s.residual ∧ (completeAttempt a s).atm = s.atm ∧ (completeAttempt a s).zone = s.zone ∧ (completeAttempt a s).tally = s.tally
      ∧ (completeAttempt a s).port = s.port ∧ (completeAttempt a s).start = s.start ∧ (completeAttempt a s).cfg = s.cfg ∧ (completeAttempt a s).uniqueId = s.uniqueId
      ∧ (completeAttempt a s).draws = s.draws ∧ (completeAttempt a s).pending = s.pending := by
  unfold completeAttempt; try dsimp only
  (repeat' split) <;> simp

@[simp] theorem enterClashed_frame (cause : ClashCause) (s : State) :
    (enterClashed cause s).bank = s.bank ∧ (enterClashed cause s).residual = s.residual ∧ (enterClashed cause s).zone = s.zone ∧ (enterClashed cause s).tally = s.tally
      ∧ (enterClashed cause s).start = s.start ∧ (enterClashed cause s).cfg = s.cfg ∧ (enterClashed cause s).uniqueId = s.uniqueId ∧ (enterClashed cause s).draws = s.draws
      ∧ (enterClashed cause s).pending = s.pending := by
  unfold enterClashed; try dsimp only
  (repeat' split) <;> simp

@[simp] theorem hearError_frame (s : State) :
    (hearError s).peers = s.peers ∧ (hearError s).bank = s.bank ∧ (hearError s).store = s.store ∧ (hearError s).engine = s.engine
      ∧ (hearError s).residual = s.residual ∧ (hearError s).atm = s.atm ∧ (hearError s).zone = s.zone ∧ (hearError s).tally = s.tally
      ∧ (hearError s).port = s.port ∧ (hearError s).start = s.start ∧ (hearError s).cfg = s.cfg ∧ (hearError s).uniqueId = s.uniqueId
      ∧ (hearError s).draws = s.draws ∧ (hearError s).pending = s.pending := by
  unfold hearError; try dsimp only
  (repeat' split) <;> simp

@[simp] theorem countDiscard_frame (n : Nat) (s : State) :
    (countDiscard n s).link = s.link ∧ (countDiscard n s).bank = s.bank ∧ (countDiscard n s).store = s.store ∧ (countDiscard n s).engine = s.engine
      ∧ (countDiscard n s).residual = s.residual ∧ (countDiscard n s).atm = s.atm ∧ (countDiscard n s).zone = s.zone ∧ (countDiscard n s).tally = s.tally
      ∧ (countDiscard n s).port = s.port ∧ (countDiscard n s).start = s.start ∧ (countDiscard n s).cfg = s.cfg ∧ (countDiscard n s).uniqueId = s.uniqueId
      ∧ (countDiscard n s).draws = s.draws ∧ (countDiscard n s).pending = s.pending := by simp [countDiscard]

@[simp] theorem countUnadmitted_frame (n : Nat) (s : State) :
    (countUnadmitted n s).link = s.link ∧ (countUnadmitted n s).bank = s.bank ∧ (countUnadmitted n s).store = s.store ∧ (countUnadmitted n s).engine = s.engine
      ∧ (countUnadmitted n s).residual = s.residual ∧ (countUnadmitted n s).atm = s.atm ∧ (countUnadmitted n s).zone = s.zone ∧ (countUnadmitted n s).tally = s.tally
      ∧ (countUnadmitted n s).port = s.port ∧ (countUnadmitted n s).start = s.start ∧ (countUnadmitted n s).cfg = s.cfg ∧ (countUnadmitted n s).uniqueId = s.uniqueId
      ∧ (countUnadmitted n s).draws = s.draws ∧ (countUnadmitted n s).pending = s.pending := by simp [countUnadmitted]

@[simp] theorem peerRestart_frame (n epoch : Nat) (s : State) :
    (peerRestart n epoch s).bank = s.bank ∧ (peerRestart n epoch s).residual = s.residual ∧ (peerRestart n epoch s).start = s.start ∧ (peerRestart n epoch s).cfg = s.cfg
      ∧ (peerRestart n epoch s).uniqueId = s.uniqueId ∧ (peerRestart n epoch s).draws = s.draws ∧ (peerRestart n epoch s).pending = s.pending := by simp [peerRestart]

@[simp] theorem takeNewJoin_frame (f : JoinFrame) (s : State) :
    (takeNewJoin f s).bank = s.bank ∧ (takeNewJoin f s).residual = s.residual ∧ (takeNewJoin f s).start = s.start ∧ (takeNewJoin f s).cfg = s.cfg
      ∧ (takeNewJoin f s).uniqueId = s.uniqueId ∧ (takeNewJoin f s).draws = s.draws ∧ (takeNewJoin f s).pending = s.pending := by
  unfold takeNewJoin; try dsimp only
  (repeat' split) <;> simp

@[simp] theorem takeAdmittedJoin_frame (f : JoinFrame) (s : State) :
    (takeAdmittedJoin f s).bank = s.bank ∧ (takeAdmittedJoin f s).residual = s.residual ∧ (takeAdmittedJoin f s).start = s.start ∧ (takeAdmittedJoin f s).cfg = s.cfg
      ∧ (takeAdmittedJoin f s).uniqueId = s.uniqueId ∧ (takeAdmittedJoin f s).draws = s.draws ∧ (takeAdmittedJoin f s).pending = s.pending := by
  unfold takeAdmittedJoin; try dsimp only
  (repeat' split) <;> simp

@[simp] theorem takeJoin_frame (f : JoinFrame) (s : State) :
    (takeJoin f s).bank = s.bank ∧ (takeJoin f s).residual = s.residual ∧ (takeJoin f s).start = s.start ∧ (takeJoin f s).cfg = s.cfg
      ∧ (takeJoin f s).uniqueId = s.uniqueId ∧ (takeJoin f s).draws = s.draws ∧ (takeJoin f s).pending = s.pending := by
  unfold takeJoin; try dsimp only
  (repeat' split) <;> simp

@[simp] theorem examineUnheard_frame (f : StateFrame) (s : State) :
    (examineUnheard f s).bank = s.bank ∧ (examineUnheard f s).store = s.store ∧ (examineUnheard f s).engine = s.engine ∧ (examineUnheard f s).residual = s.residual
      ∧ (examineUnheard f s).atm = s.atm ∧ (examineUnheard f s).zone = s.zone ∧ (examineUnheard f s).tally = s.tally ∧ (examineUnheard f s).start = s.start
      ∧ (examineUnheard f s).cfg = s.cfg ∧ (examineUnheard f s).uniqueId = s.uniqueId ∧ (examineUnheard f s).draws = s.draws ∧ (examineUnheard f s).pending = s.pending := by
  unfold examineUnheard; try dsimp only
  (repeat' split) <;> simp

@[simp] theorem addEcho_frame (echo : Nat) (s : State) :
    (addEcho echo s).link = s.link ∧ (addEcho echo s).bank = s.bank ∧ (addEcho echo s).store = s.store ∧ (addEcho echo s).engine = s.engine
      ∧ (addEcho echo s).residual = s.residual ∧ (addEcho echo s).atm = s.atm ∧ (addEcho echo s).zone = s.zone ∧ (addEcho echo s).tally = s.tally
      ∧ (addEcho echo s).start = s.start ∧ (addEcho echo s).cfg = s.cfg ∧ (addEcho echo s).uniqueId = s.uniqueId ∧ (addEcho echo s).draws = s.draws
      ∧ (addEcho echo s).pending = s.pending := by
  unfold addEcho; try dsimp only
  (repeat' split) <;> simp

@[simp] theorem takePeerState_frame (f : StateFrame) (s : State) :
    (takePeerState f s).bank = s.bank ∧ (takePeerState f s).residual = s.residual ∧ (takePeerState f s).start = s.start ∧ (takePeerState f s).cfg = s.cfg
      ∧ (takePeerState f s).uniqueId = s.uniqueId ∧ (takePeerState f s).draws = s.draws ∧ (takePeerState f s).pending = s.pending := by
  unfold takePeerState; try dsimp only
  (repeat' split) <;> simp

@[simp] theorem takeState_frame (f : StateFrame) (s : State) :
    (takeState f s).bank = s.bank ∧ (takeState f s).residual = s.residual ∧ (takeState f s).start = s.start ∧ (takeState f s).cfg = s.cfg
      ∧ (takeState f s).uniqueId = s.uniqueId ∧ (takeState f s).draws = s.draws ∧ (takeState f s).pending = s.pending := by
  unfold takeState; try dsimp only
  (repeat' split) <;> simp

@[simp] theorem examineListed_frame (n : Nat) (s : State) :
    (examineListed n s).bank = s.bank ∧ (examineListed n s).residual = s.residual ∧ (examineListed n s).start = s.start ∧ (examineListed n s).cfg = s.cfg
      ∧ (examineListed n s).uniqueId = s.uniqueId ∧ (examineListed n s).draws = s.draws ∧ (examineListed n s).pending = s.pending := by
  unfold examineListed; try dsimp only
  (repeat' split) <;> simp

@[simp] theorem examineAllListed_frame (s : State) :
    (examineAllListed s).bank = s.bank ∧ (examineAllListed s).residual = s.residual ∧ (examineAllListed s).start = s.start ∧ (examineAllListed s).cfg = s.cfg
      ∧ (examineAllListed s).uniqueId = s.uniqueId ∧ (examineAllListed s).draws = s.draws ∧ (examineAllListed s).pending = s.pending := by
  unfold examineAllListed
  refine foldl_keeps (P := fun (t : State) => t.bank = s.bank ∧ t.residual = s.residual ∧ t.start = s.start ∧ t.cfg = s.cfg ∧ t.uniqueId = s.uniqueId ∧ t.draws = s.draws ∧ t.pending = s.pending) ?_ _ _ ?_
  · intro b a h; simp [h]
  · simp

@[simp] theorem runningPeriod_frame (s : State) :
    (runningPeriod s).peers = s.peers ∧ (runningPeriod s).bank = s.bank ∧ (runningPeriod s).engine = s.engine ∧ (runningPeriod s).residual = s.residual
      ∧ (runningPeriod s).atm = s.atm ∧ (runningPeriod s).zone = s.zone ∧ (runningPeriod s).tally = s.tally ∧ (runningPeriod s).port = s.port
      ∧ (runningPeriod s).start = s.start ∧ (runningPeriod s).cfg = s.cfg ∧ (runningPeriod s).uniqueId = s.uniqueId ∧ (runningPeriod s).draws = s.draws
      ∧ (runningPeriod s).pending = s.pending := by simp [runningPeriod]

@[simp] theorem advancePeriod_frame (s : State) :
    (advancePeriod s).link = s.link ∧ (advancePeriod s).bank = s.bank ∧ (advancePeriod s).engine = s.engine ∧ (advancePeriod s).residual = s.residual
      ∧ (advancePeriod s).atm = s.atm ∧ (advancePeriod s).zone = s.zone ∧ (advancePeriod s).tally = s.tally ∧ (advancePeriod s).port = s.port
      ∧ (advancePeriod s).start = s.start ∧ (advancePeriod s).cfg = s.cfg ∧ (advancePeriod s).uniqueId = s.uniqueId ∧ (advancePeriod s).draws = s.draws
      ∧ (advancePeriod s).pending = s.pending := by simp [advancePeriod]

@[simp] theorem noticeFlag_frame (n : Nat) (s : State) :
    (noticeFlag n s).link = s.link ∧ (noticeFlag n s).peers = s.peers ∧ (noticeFlag n s).bank = s.bank ∧ (noticeFlag n s).store = s.store
      ∧ (noticeFlag n s).engine = s.engine ∧ (noticeFlag n s).residual = s.residual ∧ (noticeFlag n s).atm = s.atm ∧ (noticeFlag n s).zone = s.zone
      ∧ (noticeFlag n s).tally = s.tally ∧ (noticeFlag n s).start = s.start ∧ (noticeFlag n s).cfg = s.cfg ∧ (noticeFlag n s).uniqueId = s.uniqueId
      ∧ (noticeFlag n s).draws = s.draws ∧ (noticeFlag n s).pending = s.pending := by
  unfold noticeFlag; try dsimp only
  (repeat' split) <;> simp

@[simp] theorem evaluateAll_frame (s : State) :
    (evaluateAll s).link = s.link ∧ (evaluateAll s).peers = s.peers ∧ (evaluateAll s).store = s.store ∧ (evaluateAll s).engine = s.engine
      ∧ (evaluateAll s).residual = s.residual ∧ (evaluateAll s).atm = s.atm ∧ (evaluateAll s).zone = s.zone ∧ (evaluateAll s).tally = s.tally
      ∧ (evaluateAll s).start = s.start ∧ (evaluateAll s).cfg = s.cfg ∧ (evaluateAll s).uniqueId = s.uniqueId ∧ (evaluateAll s).draws = s.draws
      ∧ (evaluateAll s).pending = s.pending := by
  unfold evaluateAll
  refine foldl_keeps (P := fun (t : State) => t.link = s.link ∧ t.peers = s.peers ∧ t.store = s.store ∧ t.engine = s.engine ∧ t.residual = s.residual ∧ t.atm = s.atm ∧ t.zone = s.zone ∧ t.tally = s.tally ∧ t.start = s.start ∧ t.cfg = s.cfg ∧ t.uniqueId = s.uniqueId ∧ t.draws = s.draws ∧ t.pending = s.pending) ?_ _ _ ?_
  · intro b a h; simp [h]
  · simp

@[simp] theorem setForce_frame (n : Nat) (s : State) :
    (setForce n s).link = s.link ∧ (setForce n s).peers = s.peers ∧ (setForce n s).store = s.store ∧ (setForce n s).engine = s.engine
      ∧ (setForce n s).residual = s.residual ∧ (setForce n s).atm = s.atm ∧ (setForce n s).zone = s.zone ∧ (setForce n s).tally = s.tally
      ∧ (setForce n s).port = s.port ∧ (setForce n s).start = s.start ∧ (setForce n s).cfg = s.cfg ∧ (setForce n s).uniqueId = s.uniqueId
      ∧ (setForce n s).draws = s.draws ∧ (setForce n s).pending = s.pending := by simp [setForce]

@[simp] theorem testChannelOf_frame (tag : Byte) (n : Nat) (s : State) :
    (testChannelOf tag n s).link = s.link ∧ (testChannelOf tag n s).peers = s.peers ∧ (testChannelOf tag n s).store = s.store ∧ (testChannelOf tag n s).engine = s.engine
      ∧ (testChannelOf tag n s).residual = s.residual ∧ (testChannelOf tag n s).atm = s.atm ∧ (testChannelOf tag n s).zone = s.zone ∧ (testChannelOf tag n s).tally = s.tally
      ∧ (testChannelOf tag n s).start = s.start ∧ (testChannelOf tag n s).cfg = s.cfg ∧ (testChannelOf tag n s).uniqueId = s.uniqueId ∧ (testChannelOf tag n s).draws = s.draws
      ∧ (testChannelOf tag n s).pending = s.pending := by
  unfold testChannelOf; try dsimp only
  (repeat' split) <;> simp

@[simp] theorem markHot_frame (s : State) :
    (markHot s).peers = s.peers ∧ (markHot s).bank = s.bank ∧ (markHot s).residual = s.residual ∧ (markHot s).start = s.start
      ∧ (markHot s).cfg = s.cfg ∧ (markHot s).uniqueId = s.uniqueId ∧ (markHot s).draws = s.draws ∧ (markHot s).pending = s.pending := by simp [markHot]

@[simp] theorem takePackStop_frame (s : State) :
    (takePackStop s).peers = s.peers ∧ (takePackStop s).bank = s.bank ∧ (takePackStop s).residual = s.residual ∧ (takePackStop s).start = s.start
      ∧ (takePackStop s).cfg = s.cfg ∧ (takePackStop s).uniqueId = s.uniqueId ∧ (takePackStop s).draws = s.draws ∧ (takePackStop s).pending = s.pending := by
  unfold takePackStop; try dsimp only
  (repeat' split) <;> simp

@[simp] theorem engineTakesFilter_frame (hot stop : Bool) (s : State) :
    (engineTakesFilter hot stop s).peers = s.peers ∧ (engineTakesFilter hot stop s).bank = s.bank ∧ (engineTakesFilter hot stop s).residual = s.residual ∧ (engineTakesFilter hot stop s).start = s.start
      ∧ (engineTakesFilter hot stop s).cfg = s.cfg ∧ (engineTakesFilter hot stop s).uniqueId = s.uniqueId ∧ (engineTakesFilter hot stop s).draws = s.draws ∧ (engineTakesFilter hot stop s).pending = s.pending := by
  unfold engineTakesFilter; try dsimp only
  (repeat' split) <;> simp

@[simp] theorem integrateSample_frame (m : Reading) (s : State) :
    (integrateSample m s).link = s.link ∧ (integrateSample m s).peers = s.peers ∧ (integrateSample m s).bank = s.bank ∧ (integrateSample m s).residual = s.residual
      ∧ (integrateSample m s).atm = s.atm ∧ (integrateSample m s).zone = s.zone ∧ (integrateSample m s).tally = s.tally ∧ (integrateSample m s).port = s.port
      ∧ (integrateSample m s).start = s.start ∧ (integrateSample m s).cfg = s.cfg ∧ (integrateSample m s).uniqueId = s.uniqueId ∧ (integrateSample m s).draws = s.draws
      ∧ (integrateSample m s).pending = s.pending := by
  unfold integrateSample; try dsimp only
  (repeat' split) <;> simp

@[simp] theorem testPolarity_frame (m : Reading) (s : State) :
    (testPolarity m s).link = s.link ∧ (testPolarity m s).peers = s.peers ∧ (testPolarity m s).bank = s.bank ∧ (testPolarity m s).residual = s.residual
      ∧ (testPolarity m s).atm = s.atm ∧ (testPolarity m s).zone = s.zone ∧ (testPolarity m s).tally = s.tally ∧ (testPolarity m s).port = s.port
      ∧ (testPolarity m s).start = s.start ∧ (testPolarity m s).cfg = s.cfg ∧ (testPolarity m s).uniqueId = s.uniqueId ∧ (testPolarity m s).draws = s.draws
      ∧ (testPolarity m s).pending = s.pending := by
  unfold testPolarity; try dsimp only
  (repeat' split) <;> simp

@[simp] theorem testRoundEnd_frame (m : Reading) (s : State) :
    (testRoundEnd m s).link = s.link ∧ (testRoundEnd m s).peers = s.peers ∧ (testRoundEnd m s).bank = s.bank ∧ (testRoundEnd m s).store = s.store
      ∧ (testRoundEnd m s).residual = s.residual ∧ (testRoundEnd m s).atm = s.atm ∧ (testRoundEnd m s).zone = s.zone ∧ (testRoundEnd m s).tally = s.tally
      ∧ (testRoundEnd m s).port = s.port ∧ (testRoundEnd m s).start = s.start ∧ (testRoundEnd m s).cfg = s.cfg ∧ (testRoundEnd m s).uniqueId = s.uniqueId
      ∧ (testRoundEnd m s).draws = s.draws ∧ (testRoundEnd m s).pending = s.pending := by
  unfold testRoundEnd; try dsimp only
  (repeat' split) <;> simp

@[simp] theorem takeFresh_frame (fresh : Option Reading) (s : State) :
    (takeFresh fresh s).link = s.link ∧ (takeFresh fresh s).peers = s.peers ∧ (takeFresh fresh s).bank = s.bank ∧ (takeFresh fresh s).residual = s.residual
      ∧ (takeFresh fresh s).atm = s.atm ∧ (takeFresh fresh s).zone = s.zone ∧ (takeFresh fresh s).tally = s.tally ∧ (takeFresh fresh s).port = s.port
      ∧ (takeFresh fresh s).start = s.start ∧ (takeFresh fresh s).cfg = s.cfg ∧ (takeFresh fresh s).uniqueId = s.uniqueId ∧ (takeFresh fresh s).draws = s.draws
      ∧ (takeFresh fresh s).pending = s.pending := by
  unfold takeFresh; try dsimp only
  (repeat' split) <;> simp

@[simp] theorem updateRuns_frame (was : EngineState) (fresh : Option Reading) (s : State) :
    (updateRuns was fresh s).link = s.link ∧ (updateRuns was fresh s).peers = s.peers ∧ (updateRuns was fresh s).bank = s.bank ∧ (updateRuns was fresh s).store = s.store
      ∧ (updateRuns was fresh s).residual = s.residual ∧ (updateRuns was fresh s).atm = s.atm ∧ (updateRuns was fresh s).zone = s.zone ∧ (updateRuns was fresh s).tally = s.tally
      ∧ (updateRuns was fresh s).port = s.port ∧ (updateRuns was fresh s).start = s.start ∧ (updateRuns was fresh s).cfg = s.cfg ∧ (updateRuns was fresh s).uniqueId = s.uniqueId
      ∧ (updateRuns was fresh s).draws = s.draws ∧ (updateRuns was fresh s).pending = s.pending := by
  unfold updateRuns; try dsimp only
  (repeat' split) <;> simp

@[simp] theorem enterRun_frame (s : State) :
    (enterRun s).link = s.link ∧ (enterRun s).peers = s.peers ∧ (enterRun s).bank = s.bank ∧ (enterRun s).store = s.store
      ∧ (enterRun s).residual = s.residual ∧ (enterRun s).atm = s.atm ∧ (enterRun s).zone = s.zone ∧ (enterRun s).tally = s.tally
      ∧ (enterRun s).port = s.port ∧ (enterRun s).start = s.start ∧ (enterRun s).cfg = s.cfg ∧ (enterRun s).uniqueId = s.uniqueId
      ∧ (enterRun s).draws = s.draws ∧ (enterRun s).pending = s.pending := by
  unfold enterRun; try dsimp only
  (repeat' split) <;> simp

@[simp] theorem engineExpiry_frame (was : EngineState) (hot stop new : Bool) (s : State) :
    (engineExpiry was hot stop new s).peers = s.peers ∧ (engineExpiry was hot stop new s).bank = s.bank ∧ (engineExpiry was hot stop new s).residual = s.residual ∧ (engineExpiry was hot stop new s).start = s.start
      ∧ (engineExpiry was hot stop new s).cfg = s.cfg ∧ (engineExpiry was hot stop new s).uniqueId = s.uniqueId ∧ (engineExpiry was hot stop new s).draws = s.draws ∧ (engineExpiry was hot stop new s).pending = s.pending := by
  unfold engineExpiry; try dsimp only
  (repeat' split) <;> simp

@[simp] theorem sampleExpiry_frame (contacts : Contacts) (s : State) :
    (sampleExpiry contacts s).peers = s.peers ∧ (sampleExpiry contacts s).residual = s.residual ∧ (sampleExpiry contacts s).start = s.start ∧ (sampleExpiry contacts s).cfg = s.cfg
      ∧ (sampleExpiry contacts s).uniqueId = s.uniqueId ∧ (sampleExpiry contacts s).draws = s.draws ∧ (sampleExpiry contacts s).pending = s.pending := by simp [sampleExpiry]

@[simp] theorem takeEnterRunning_frame (s : State) :
    (takeEnterRunning s).peers = s.peers ∧ (takeEnterRunning s).bank = s.bank ∧ (takeEnterRunning s).engine = s.engine ∧ (takeEnterRunning s).residual = s.residual
      ∧ (takeEnterRunning s).atm = s.atm ∧ (takeEnterRunning s).zone = s.zone ∧ (takeEnterRunning s).tally = s.tally ∧ (takeEnterRunning s).port = s.port
      ∧ (takeEnterRunning s).cfg = s.cfg ∧ (takeEnterRunning s).uniqueId = s.uniqueId ∧ (takeEnterRunning s).draws = s.draws ∧ (takeEnterRunning s).pending = s.pending := by
  unfold takeEnterRunning; try dsimp only
  (repeat' split) <;> simp

@[simp] theorem takeStartWindowClose_frame (s : State) :
    (takeStartWindowClose s).link = s.link ∧ (takeStartWindowClose s).bank = s.bank ∧ (takeStartWindowClose s).store = s.store ∧ (takeStartWindowClose s).engine = s.engine
      ∧ (takeStartWindowClose s).residual = s.residual ∧ (takeStartWindowClose s).atm = s.atm ∧ (takeStartWindowClose s).zone = s.zone ∧ (takeStartWindowClose s).tally = s.tally
      ∧ (takeStartWindowClose s).port = s.port ∧ (takeStartWindowClose s).start = s.start ∧ (takeStartWindowClose s).cfg = s.cfg ∧ (takeStartWindowClose s).uniqueId = s.uniqueId
      ∧ (takeStartWindowClose s).draws = s.draws ∧ (takeStartWindowClose s).pending = s.pending := by
  unfold takeStartWindowClose; try dsimp only
  (repeat' split) <;> simp

@[simp] theorem takeStreakQuiet_frame (n : Nat) (s : State) :
    (takeStreakQuiet n s).link = s.link ∧ (takeStreakQuiet n s).bank = s.bank ∧ (takeStreakQuiet n s).store = s.store ∧ (takeStreakQuiet n s).engine = s.engine
      ∧ (takeStreakQuiet n s).residual = s.residual ∧ (takeStreakQuiet n s).atm = s.atm ∧ (takeStreakQuiet n s).zone = s.zone ∧ (takeStreakQuiet n s).tally = s.tally
      ∧ (takeStreakQuiet n s).port = s.port ∧ (takeStreakQuiet n s).start = s.start ∧ (takeStreakQuiet n s).cfg = s.cfg ∧ (takeStreakQuiet n s).uniqueId = s.uniqueId
      ∧ (takeStreakQuiet n s).draws = s.draws ∧ (takeStreakQuiet n s).pending = s.pending := by
  unfold takeStreakQuiet; try dsimp only
  (repeat' split) <;> simp

@[simp] theorem dueLoss_frame (s : State) :
    (dueLoss s).link = s.link ∧ (dueLoss s).peers = s.peers ∧ (dueLoss s).bank = s.bank ∧ (dueLoss s).store = s.store
      ∧ (dueLoss s).residual = s.residual ∧ (dueLoss s).atm = s.atm ∧ (dueLoss s).zone = s.zone ∧ (dueLoss s).tally = s.tally
      ∧ (dueLoss s).port = s.port ∧ (dueLoss s).start = s.start ∧ (dueLoss s).cfg = s.cfg ∧ (dueLoss s).uniqueId = s.uniqueId
      ∧ (dueLoss s).draws = s.draws ∧ (dueLoss s).pending = s.pending := by simp [dueLoss]

@[simp] theorem dueRamp_frame (s : State) :
    (dueRamp s).link = s.link ∧ (dueRamp s).peers = s.peers ∧ (dueRamp s).bank = s.bank ∧ (dueRamp s).store = s.store
      ∧ (dueRamp s).residual = s.residual ∧ (dueRamp s).atm = s.atm ∧ (dueRamp s).zone = s.zone ∧ (dueRamp s).tally = s.tally
      ∧ (dueRamp s).port = s.port ∧ (dueRamp s).start = s.start ∧ (dueRamp s).cfg = s.cfg ∧ (dueRamp s).uniqueId = s.uniqueId
      ∧ (dueRamp s).draws = s.draws ∧ (dueRamp s).pending = s.pending := by simp [dueRamp]

@[simp] theorem dueUnload_frame (s : State) :
    (dueUnload s).link = s.link ∧ (dueUnload s).peers = s.peers ∧ (dueUnload s).bank = s.bank ∧ (dueUnload s).residual = s.residual
      ∧ (dueUnload s).atm = s.atm ∧ (dueUnload s).zone = s.zone ∧ (dueUnload s).tally = s.tally ∧ (dueUnload s).start = s.start
      ∧ (dueUnload s).cfg = s.cfg ∧ (dueUnload s).uniqueId = s.uniqueId ∧ (dueUnload s).draws = s.draws ∧ (dueUnload s).pending = s.pending := by simp [dueUnload]

@[simp] theorem dueRestCurrent_frame (s : State) :
    (dueRestCurrent s).link = s.link ∧ (dueRestCurrent s).peers = s.peers ∧ (dueRestCurrent s).bank = s.bank ∧ (dueRestCurrent s).residual = s.residual
      ∧ (dueRestCurrent s).atm = s.atm ∧ (dueRestCurrent s).zone = s.zone ∧ (dueRestCurrent s).tally = s.tally ∧ (dueRestCurrent s).start = s.start
      ∧ (dueRestCurrent s).cfg = s.cfg ∧ (dueRestCurrent s).uniqueId = s.uniqueId ∧ (dueRestCurrent s).draws = s.draws ∧ (dueRestCurrent s).pending = s.pending := by simp [dueRestCurrent]

@[simp] theorem dueLoadStuck_frame (s : State) :
    (dueLoadStuck s).link = s.link ∧ (dueLoadStuck s).peers = s.peers ∧ (dueLoadStuck s).bank = s.bank ∧ (dueLoadStuck s).residual = s.residual
      ∧ (dueLoadStuck s).atm = s.atm ∧ (dueLoadStuck s).zone = s.zone ∧ (dueLoadStuck s).tally = s.tally ∧ (dueLoadStuck s).start = s.start
      ∧ (dueLoadStuck s).cfg = s.cfg ∧ (dueLoadStuck s).uniqueId = s.uniqueId ∧ (dueLoadStuck s).draws = s.draws ∧ (dueLoadStuck s).pending = s.pending := by simp [dueLoadStuck]

@[simp] theorem dueSettle_frame (s : State) :
    (dueSettle s).link = s.link ∧ (dueSettle s).peers = s.peers ∧ (dueSettle s).bank = s.bank ∧ (dueSettle s).residual = s.residual
      ∧ (dueSettle s).atm = s.atm ∧ (dueSettle s).zone = s.zone ∧ (dueSettle s).tally = s.tally ∧ (dueSettle s).start = s.start
      ∧ (dueSettle s).cfg = s.cfg ∧ (dueSettle s).uniqueId = s.uniqueId ∧ (dueSettle s).draws = s.draws ∧ (dueSettle s).pending = s.pending := by simp [dueSettle]

@[simp] theorem dueRest_frame (s : State) :
    (dueRest s).link = s.link ∧ (dueRest s).peers = s.peers ∧ (dueRest s).bank = s.bank ∧ (dueRest s).atm = s.atm
      ∧ (dueRest s).zone = s.zone ∧ (dueRest s).start = s.start ∧ (dueRest s).cfg = s.cfg ∧ (dueRest s).uniqueId = s.uniqueId
      ∧ (dueRest s).draws = s.draws ∧ (dueRest s).pending = s.pending := by simp [dueRest]

@[simp] theorem dueCheck_frame (s : State) :
    (dueCheck s).peers = s.peers ∧ (dueCheck s).bank = s.bank ∧ (dueCheck s).start = s.start ∧ (dueCheck s).cfg = s.cfg
      ∧ (dueCheck s).uniqueId = s.uniqueId ∧ (dueCheck s).draws = s.draws ∧ (dueCheck s).pending = s.pending := by simp [dueCheck]

@[simp] theorem dueCountdown_frame (s : State) :
    (dueCountdown s).peers = s.peers ∧ (dueCountdown s).bank = s.bank ∧ (dueCountdown s).start = s.start ∧ (dueCountdown s).cfg = s.cfg
      ∧ (dueCountdown s).uniqueId = s.uniqueId ∧ (dueCountdown s).draws = s.draws ∧ (dueCountdown s).pending = s.pending := by simp [dueCountdown]

@[simp] theorem dueRunning_frame (s : State) :
    (dueRunning s).peers = s.peers ∧ (dueRunning s).bank = s.bank ∧ (dueRunning s).cfg = s.cfg ∧ (dueRunning s).uniqueId = s.uniqueId
      ∧ (dueRunning s).draws = s.draws ∧ (dueRunning s).pending = s.pending := by simp [dueRunning]

@[simp] theorem dueWindow_frame (s : State) :
    (dueWindow s).bank = s.bank ∧ (dueWindow s).cfg = s.cfg ∧ (dueWindow s).uniqueId = s.uniqueId ∧ (dueWindow s).draws = s.draws
      ∧ (dueWindow s).pending = s.pending := by simp [dueWindow]

@[simp] theorem dueStreaks_frame (s : State) :
    (dueStreaks s).bank = s.bank ∧ (dueStreaks s).cfg = s.cfg ∧ (dueStreaks s).uniqueId = s.uniqueId ∧ (dueStreaks s).draws = s.draws
      ∧ (dueStreaks s).pending = s.pending := by
  unfold dueStreaks
  refine foldl_keeps (P := fun (t : State) => t.bank = s.bank ∧ t.cfg = s.cfg ∧ t.uniqueId = s.uniqueId ∧ t.draws = s.draws ∧ t.pending = s.pending) ?_ _ _ ?_
  · intro b a h; simp [h]
  · simp

@[simp] theorem takeDue_frame (s : State) :
    (takeDue s).bank = s.bank ∧ (takeDue s).cfg = s.cfg ∧ (takeDue s).uniqueId = s.uniqueId ∧ (takeDue s).draws = s.draws
      ∧ (takeDue s).pending = s.pending := by simp [takeDue]

@[simp] theorem abortAttempt_frame (a : Attempt) (s : State) :
    (abortAttempt a s).bank = s.bank ∧ (abortAttempt a s).residual = s.residual ∧ (abortAttempt a s).zone = s.zone ∧ (abortAttempt a s).tally = s.tally
      ∧ (abortAttempt a s).start = s.start ∧ (abortAttempt a s).cfg = s.cfg ∧ (abortAttempt a s).uniqueId = s.uniqueId ∧ (abortAttempt a s).draws = s.draws
      ∧ (abortAttempt a s).pending = s.pending := by
  unfold abortAttempt; try dsimp only
  (repeat' split) <;> simp

@[simp] theorem takeAlarm_frame (f : AlarmFrame) (s : State) :
    (takeAlarm f s).peers = s.peers ∧ (takeAlarm f s).bank = s.bank ∧ (takeAlarm f s).residual = s.residual ∧ (takeAlarm f s).start = s.start
      ∧ (takeAlarm f s).cfg = s.cfg ∧ (takeAlarm f s).uniqueId = s.uniqueId ∧ (takeAlarm f s).draws = s.draws ∧ (takeAlarm f s).pending = s.pending := by
  unfold takeAlarm; try dsimp only
  (repeat' split) <;> simp

@[simp] theorem judgeAlarm_frame (f : AlarmFrame) (s : State) :
    (judgeAlarm f s).bank = s.bank ∧ (judgeAlarm f s).residual = s.residual ∧ (judgeAlarm f s).start = s.start ∧ (judgeAlarm f s).cfg = s.cfg
      ∧ (judgeAlarm f s).uniqueId = s.uniqueId ∧ (judgeAlarm f s).draws = s.draws ∧ (judgeAlarm f s).pending = s.pending := by
  unfold judgeAlarm; try dsimp only
  (repeat' split) <;> simp

@[simp] theorem placeRefuse_frame (h : HandoffHead) (r : RefusalReason) (s : State) :
    (placeRefuse h r s).peers = s.peers ∧ (placeRefuse h r s).bank = s.bank ∧ (placeRefuse h r s).store = s.store ∧ (placeRefuse h r s).engine = s.engine
      ∧ (placeRefuse h r s).residual = s.residual ∧ (placeRefuse h r s).atm = s.atm ∧ (placeRefuse h r s).zone = s.zone ∧ (placeRefuse h r s).tally = s.tally
      ∧ (placeRefuse h r s).port = s.port ∧ (placeRefuse h r s).start = s.start ∧ (placeRefuse h r s).cfg = s.cfg ∧ (placeRefuse h r s).uniqueId = s.uniqueId
      ∧ (placeRefuse h r s).draws = s.draws ∧ (placeRefuse h r s).pending = s.pending := by simp [placeRefuse]

@[simp] theorem answerOffer_frame (f : OfferFrame) (s : State) :
    (answerOffer f s).peers = s.peers ∧ (answerOffer f s).bank = s.bank ∧ (answerOffer f s).engine = s.engine ∧ (answerOffer f s).residual = s.residual
      ∧ (answerOffer f s).atm = s.atm ∧ (answerOffer f s).zone = s.zone ∧ (answerOffer f s).tally = s.tally ∧ (answerOffer f s).port = s.port
      ∧ (answerOffer f s).start = s.start ∧ (answerOffer f s).cfg = s.cfg ∧ (answerOffer f s).uniqueId = s.uniqueId ∧ (answerOffer f s).draws = s.draws
      ∧ (answerOffer f s).pending = s.pending := by
  unfold answerOffer; try dsimp only
  (repeat' split) <;> simp

@[simp] theorem takeOffer_frame (f : OfferFrame) (s : State) :
    (takeOffer f s).bank = s.bank ∧ (takeOffer f s).engine = s.engine ∧ (takeOffer f s).residual = s.residual ∧ (takeOffer f s).atm = s.atm
      ∧ (takeOffer f s).zone = s.zone ∧ (takeOffer f s).tally = s.tally ∧ (takeOffer f s).port = s.port ∧ (takeOffer f s).start = s.start
      ∧ (takeOffer f s).cfg = s.cfg ∧ (takeOffer f s).uniqueId = s.uniqueId ∧ (takeOffer f s).draws = s.draws ∧ (takeOffer f s).pending = s.pending := by
  unfold takeOffer; try dsimp only
  (repeat' split) <;> simp

@[simp] theorem takeGrant_frame (h : HandoffHead) (s : State) :
    (takeGrant h s).link = s.link ∧ (takeGrant h s).bank = s.bank ∧ (takeGrant h s).engine = s.engine ∧ (takeGrant h s).residual = s.residual
      ∧ (takeGrant h s).atm = s.atm ∧ (takeGrant h s).zone = s.zone ∧ (takeGrant h s).tally = s.tally ∧ (takeGrant h s).port = s.port
      ∧ (takeGrant h s).start = s.start ∧ (takeGrant h s).cfg = s.cfg ∧ (takeGrant h s).uniqueId = s.uniqueId ∧ (takeGrant h s).draws = s.draws
      ∧ (takeGrant h s).pending = s.pending := by
  unfold takeGrant; try dsimp only
  (repeat' split) <;> simp

@[simp] theorem takeRefuse_frame (f : RefuseFrame) (s : State) :
    (takeRefuse f s).link = s.link ∧ (takeRefuse f s).bank = s.bank ∧ (takeRefuse f s).engine = s.engine ∧ (takeRefuse f s).residual = s.residual
      ∧ (takeRefuse f s).atm = s.atm ∧ (takeRefuse f s).zone = s.zone ∧ (takeRefuse f s).tally = s.tally ∧ (takeRefuse f s).port = s.port
      ∧ (takeRefuse f s).start = s.start ∧ (takeRefuse f s).cfg = s.cfg ∧ (takeRefuse f s).uniqueId = s.uniqueId ∧ (takeRefuse f s).draws = s.draws
      ∧ (takeRefuse f s).pending = s.pending := by
  unfold takeRefuse; try dsimp only
  (repeat' split) <;> simp

@[simp] theorem markDisputed_frame (id : PackId) (s : State) :
    (markDisputed id s).link = s.link ∧ (markDisputed id s).peers = s.peers ∧ (markDisputed id s).bank = s.bank ∧ (markDisputed id s).engine = s.engine
      ∧ (markDisputed id s).residual = s.residual ∧ (markDisputed id s).zone = s.zone ∧ (markDisputed id s).tally = s.tally ∧ (markDisputed id s).start = s.start
      ∧ (markDisputed id s).cfg = s.cfg ∧ (markDisputed id s).uniqueId = s.uniqueId ∧ (markDisputed id s).draws = s.draws ∧ (markDisputed id s).pending = s.pending := by
  unfold markDisputed; try dsimp only
  (repeat' split) <;> simp

@[simp] theorem recordTaken_frame (f : TakenFrame) (s : State) :
    (recordTaken f s).peers = s.peers ∧ (recordTaken f s).bank = s.bank ∧ (recordTaken f s).residual = s.residual ∧ (recordTaken f s).start = s.start
      ∧ (recordTaken f s).cfg = s.cfg ∧ (recordTaken f s).uniqueId = s.uniqueId ∧ (recordTaken f s).draws = s.draws ∧ (recordTaken f s).pending = s.pending := by simp [recordTaken]

@[simp] theorem takeTaken_frame (f : TakenFrame) (s : State) :
    (takeTaken f s).peers = s.peers ∧ (takeTaken f s).bank = s.bank ∧ (takeTaken f s).residual = s.residual ∧ (takeTaken f s).start = s.start
      ∧ (takeTaken f s).cfg = s.cfg ∧ (takeTaken f s).uniqueId = s.uniqueId ∧ (takeTaken f s).draws = s.draws ∧ (takeTaken f s).pending = s.pending := by
  unfold takeTaken; try dsimp only
  (repeat' split) <;> simp

@[simp] theorem recordInto_frame (h : HandoffHead) (st : RecordState) (s : State) :
    (recordInto h st s).link = s.link ∧ (recordInto h st s).peers = s.peers ∧ (recordInto h st s).bank = s.bank ∧ (recordInto h st s).engine = s.engine
      ∧ (recordInto h st s).residual = s.residual ∧ (recordInto h st s).atm = s.atm ∧ (recordInto h st s).zone = s.zone ∧ (recordInto h st s).tally = s.tally
      ∧ (recordInto h st s).start = s.start ∧ (recordInto h st s).cfg = s.cfg ∧ (recordInto h st s).uniqueId = s.uniqueId ∧ (recordInto h st s).draws = s.draws
      ∧ (recordInto h st s).pending = s.pending := by
  unfold recordInto; try dsimp only
  (repeat' split) <;> simp

@[simp] theorem offerExpiry_frame (r : PackRecord) (s : State) :
    (offerExpiry r s).bank = s.bank ∧ (offerExpiry r s).engine = s.engine ∧ (offerExpiry r s).residual = s.residual ∧ (offerExpiry r s).atm = s.atm
      ∧ (offerExpiry r s).zone = s.zone ∧ (offerExpiry r s).tally = s.tally ∧ (offerExpiry r s).start = s.start ∧ (offerExpiry r s).cfg = s.cfg
      ∧ (offerExpiry r s).uniqueId = s.uniqueId ∧ (offerExpiry r s).draws = s.draws ∧ (offerExpiry r s).pending = s.pending := by
  unfold offerExpiry; try dsimp only
  (repeat' split) <;> simp

@[simp] theorem purgeExpiry_frame (s : State) :
    (purgeExpiry s).link = s.link ∧ (purgeExpiry s).peers = s.peers ∧ (purgeExpiry s).bank = s.bank ∧ (purgeExpiry s).engine = s.engine
      ∧ (purgeExpiry s).residual = s.residual ∧ (purgeExpiry s).zone = s.zone ∧ (purgeExpiry s).start = s.start ∧ (purgeExpiry s).cfg = s.cfg
      ∧ (purgeExpiry s).uniqueId = s.uniqueId ∧ (purgeExpiry s).draws = s.draws ∧ (purgeExpiry s).pending = s.pending := by
  unfold purgeExpiry; try dsimp only
  (repeat' split) <;> simp

@[simp] theorem admitPack_frame (p : AdmitParams) (s : State) :
    (admitPack p s).peers = s.peers ∧ (admitPack p s).bank = s.bank ∧ (admitPack p s).residual = s.residual ∧ (admitPack p s).start = s.start
      ∧ (admitPack p s).cfg = s.cfg ∧ (admitPack p s).uniqueId = s.uniqueId ∧ (admitPack p s).draws = s.draws ∧ (admitPack p s).pending = s.pending := by simp [admitPack]

@[simp] theorem makeReady_frame (pack : PackId) (s : State) :
    (makeReady pack s).link = s.link ∧ (makeReady pack s).peers = s.peers ∧ (makeReady pack s).bank = s.bank ∧ (makeReady pack s).engine = s.engine
      ∧ (makeReady pack s).residual = s.residual ∧ (makeReady pack s).atm = s.atm ∧ (makeReady pack s).zone = s.zone ∧ (makeReady pack s).tally = s.tally
      ∧ (makeReady pack s).start = s.start ∧ (makeReady pack s).cfg = s.cfg ∧ (makeReady pack s).uniqueId = s.uniqueId ∧ (makeReady pack s).draws = s.draws
      ∧ (makeReady pack s).pending = s.pending := by simp [makeReady]

@[simp] theorem createArrived_frame (pack : PackId) (p : PackData) (s : State) :
    (createArrived pack p s).link = s.link ∧ (createArrived pack p s).peers = s.peers ∧ (createArrived pack p s).bank = s.bank ∧ (createArrived pack p s).engine = s.engine
      ∧ (createArrived pack p s).residual = s.residual ∧ (createArrived pack p s).atm = s.atm ∧ (createArrived pack p s).zone = s.zone ∧ (createArrived pack p s).tally = s.tally
      ∧ (createArrived pack p s).start = s.start ∧ (createArrived pack p s).cfg = s.cfg ∧ (createArrived pack p s).uniqueId = s.uniqueId ∧ (createArrived pack p s).draws = s.draws
      ∧ (createArrived pack p s).pending = s.pending := by
  unfold createArrived; try dsimp only
  (repeat' split) <;> simp

@[simp] theorem matchedArrival_frame (v : Reservation) (s : State) :
    (matchedArrival v s).peers = s.peers ∧ (matchedArrival v s).bank = s.bank ∧ (matchedArrival v s).residual = s.residual ∧ (matchedArrival v s).start = s.start
      ∧ (matchedArrival v s).cfg = s.cfg ∧ (matchedArrival v s).uniqueId = s.uniqueId ∧ (matchedArrival v s).draws = s.draws ∧ (matchedArrival v s).pending = s.pending := by simp [matchedArrival]

@[simp] theorem unexpectedArrival_frame (pack : PackId) (upstream : Nat) (s : State) :
    (unexpectedArrival pack upstream s).peers = s.peers ∧ (unexpectedArrival pack upstream s).bank = s.bank ∧ (unexpectedArrival pack upstream s).residual = s.residual ∧ (unexpectedArrival pack upstream s).start = s.start
      ∧ (unexpectedArrival pack upstream s).cfg = s.cfg ∧ (unexpectedArrival pack upstream s).uniqueId = s.uniqueId ∧ (unexpectedArrival pack upstream s).draws = s.draws ∧ (unexpectedArrival pack upstream s).pending = s.pending := by
  unfold unexpectedArrival; try dsimp only
  (repeat' split) <;> simp

@[simp] theorem bindRecord_frame (r : PackRecord) (s : State) :
    (bindRecord r s).link = s.link ∧ (bindRecord r s).peers = s.peers ∧ (bindRecord r s).bank = s.bank ∧ (bindRecord r s).residual = s.residual
      ∧ (bindRecord r s).atm = s.atm ∧ (bindRecord r s).zone = s.zone ∧ (bindRecord r s).tally = s.tally ∧ (bindRecord r s).port = s.port
      ∧ (bindRecord r s).start = s.start ∧ (bindRecord r s).cfg = s.cfg ∧ (bindRecord r s).uniqueId = s.uniqueId ∧ (bindRecord r s).draws = s.draws
      ∧ (bindRecord r s).pending = s.pending := by simp [bindRecord]

@[simp] theorem startOldest_frame (tag : Byte) (s : State) :
    (startOldest tag s).link = s.link ∧ (startOldest tag s).peers = s.peers ∧ (startOldest tag s).bank = s.bank ∧ (startOldest tag s).residual = s.residual
      ∧ (startOldest tag s).atm = s.atm ∧ (startOldest tag s).zone = s.zone ∧ (startOldest tag s).tally = s.tally ∧ (startOldest tag s).start = s.start
      ∧ (startOldest tag s).cfg = s.cfg ∧ (startOldest tag s).uniqueId = s.uniqueId ∧ (startOldest tag s).draws = s.draws ∧ (startOldest tag s).pending = s.pending := by
  unfold startOldest; try dsimp only
  (repeat' split) <;> simp

@[simp] theorem stopEngine_frame (tag : Byte) (s : State) :
    (stopEngine tag s).link = s.link ∧ (stopEngine tag s).peers = s.peers ∧ (stopEngine tag s).bank = s.bank ∧ (stopEngine tag s).residual = s.residual
      ∧ (stopEngine tag s).atm = s.atm ∧ (stopEngine tag s).zone = s.zone ∧ (stopEngine tag s).tally = s.tally ∧ (stopEngine tag s).start = s.start
      ∧ (stopEngine tag s).cfg = s.cfg ∧ (stopEngine tag s).uniqueId = s.uniqueId ∧ (stopEngine tag s).draws = s.draws ∧ (stopEngine tag s).pending = s.pending := by
  unfold stopEngine; try dsimp only
  (repeat' split) <;> simp

@[simp] theorem replyNotPermitted_frame (tag : Byte) (marked : Bool) (s : State) :
    (replyNotPermitted tag marked s).link = s.link ∧ (replyNotPermitted tag marked s).peers = s.peers ∧ (replyNotPermitted tag marked s).bank = s.bank ∧ (replyNotPermitted tag marked s).store = s.store
      ∧ (replyNotPermitted tag marked s).engine = s.engine ∧ (replyNotPermitted tag marked s).residual = s.residual ∧ (replyNotPermitted tag marked s).atm = s.atm ∧ (replyNotPermitted tag marked s).zone = s.zone
      ∧ (replyNotPermitted tag marked s).tally = s.tally ∧ (replyNotPermitted tag marked s).start = s.start ∧ (replyNotPermitted tag marked s).cfg = s.cfg ∧ (replyNotPermitted tag marked s).uniqueId = s.uniqueId
      ∧ (replyNotPermitted tag marked s).draws = s.draws ∧ (replyNotPermitted tag marked s).pending = s.pending := by simp [replyNotPermitted]

@[simp] theorem permitFeed_frame (s : State) :
    (permitFeed s).link = s.link ∧ (permitFeed s).peers = s.peers ∧ (permitFeed s).bank = s.bank ∧ (permitFeed s).store = s.store
      ∧ (permitFeed s).engine = s.engine ∧ (permitFeed s).residual = s.residual ∧ (permitFeed s).zone = s.zone ∧ (permitFeed s).tally = s.tally
      ∧ (permitFeed s).port = s.port ∧ (permitFeed s).start = s.start ∧ (permitFeed s).cfg = s.cfg ∧ (permitFeed s).uniqueId = s.uniqueId
      ∧ (permitFeed s).draws = s.draws ∧ (permitFeed s).pending = s.pending := by simp [permitFeed]

@[simp] theorem beginFeed_frame (r : PackRecord) (s : State) :
    (beginFeed r s).link = s.link ∧ (beginFeed r s).peers = s.peers ∧ (beginFeed r s).bank = s.bank ∧ (beginFeed r s).engine = s.engine
      ∧ (beginFeed r s).residual = s.residual ∧ (beginFeed r s).zone = s.zone ∧ (beginFeed r s).tally = s.tally ∧ (beginFeed r s).port = s.port
      ∧ (beginFeed r s).start = s.start ∧ (beginFeed r s).cfg = s.cfg ∧ (beginFeed r s).uniqueId = s.uniqueId ∧ (beginFeed r s).draws = s.draws
      ∧ (beginFeed r s).pending = s.pending := by simp [beginFeed]

@[simp] theorem feedAgain_frame (tag : Byte) (r : PackRecord) (s : State) :
    (feedAgain tag r s).link = s.link ∧ (feedAgain tag r s).peers = s.peers ∧ (feedAgain tag r s).bank = s.bank ∧ (feedAgain tag r s).store = s.store
      ∧ (feedAgain tag r s).engine = s.engine ∧ (feedAgain tag r s).residual = s.residual ∧ (feedAgain tag r s).zone = s.zone ∧ (feedAgain tag r s).tally = s.tally
      ∧ (feedAgain tag r s).start = s.start ∧ (feedAgain tag r s).cfg = s.cfg ∧ (feedAgain tag r s).uniqueId = s.uniqueId ∧ (feedAgain tag r s).draws = s.draws
      ∧ (feedAgain tag r s).pending = s.pending := by
  unfold feedAgain; try dsimp only
  (repeat' split) <;> simp

@[simp] theorem feedNext_frame (tag : Byte) (s : State) :
    (feedNext tag s).link = s.link ∧ (feedNext tag s).peers = s.peers ∧ (feedNext tag s).bank = s.bank ∧ (feedNext tag s).engine = s.engine
      ∧ (feedNext tag s).residual = s.residual ∧ (feedNext tag s).zone = s.zone ∧ (feedNext tag s).tally = s.tally ∧ (feedNext tag s).start = s.start
      ∧ (feedNext tag s).cfg = s.cfg ∧ (feedNext tag s).uniqueId = s.uniqueId ∧ (feedNext tag s).draws = s.draws ∧ (feedNext tag s).pending = s.pending := by
  unfold feedNext; try dsimp only
  (repeat' split) <;> simp

@[simp] theorem consumeRecord_frame (r : PackRecord) (s : State) :
    (consumeRecord r s).peers = s.peers ∧ (consumeRecord r s).bank = s.bank ∧ (consumeRecord r s).residual = s.residual ∧ (consumeRecord r s).start = s.start
      ∧ (consumeRecord r s).cfg = s.cfg ∧ (consumeRecord r s).uniqueId = s.uniqueId ∧ (consumeRecord r s).draws = s.draws ∧ (consumeRecord r s).pending = s.pending := by simp [consumeRecord]

@[simp] theorem withdrawRecord_frame (r : PackRecord) (s : State) :
    (withdrawRecord r s).link = s.link ∧ (withdrawRecord r s).peers = s.peers ∧ (withdrawRecord r s).bank = s.bank ∧ (withdrawRecord r s).engine = s.engine
      ∧ (withdrawRecord r s).residual = s.residual ∧ (withdrawRecord r s).zone = s.zone ∧ (withdrawRecord r s).tally = s.tally ∧ (withdrawRecord r s).port = s.port
      ∧ (withdrawRecord r s).start = s.start ∧ (withdrawRecord r s).cfg = s.cfg ∧ (withdrawRecord r s).uniqueId = s.uniqueId ∧ (withdrawRecord r s).draws = s.draws
      ∧ (withdrawRecord r s).pending = s.pending := by simp [withdrawRecord]

@[simp] theorem strictCommand_frame (on : Bool) (s : State) :
    (strictCommand on s).peers = s.peers ∧ (strictCommand on s).bank = s.bank ∧ (strictCommand on s).residual = s.residual ∧ (strictCommand on s).start = s.start
      ∧ (strictCommand on s).cfg = s.cfg ∧ (strictCommand on s).uniqueId = s.uniqueId ∧ (strictCommand on s).draws = s.draws ∧ (strictCommand on s).pending = s.pending := by simp [strictCommand]

@[simp] theorem fallToNormal_frame (s : State) :
    (fallToNormal s).peers = s.peers ∧ (fallToNormal s).bank = s.bank ∧ (fallToNormal s).residual = s.residual ∧ (fallToNormal s).start = s.start
      ∧ (fallToNormal s).cfg = s.cfg ∧ (fallToNormal s).uniqueId = s.uniqueId ∧ (fallToNormal s).draws = s.draws ∧ (fallToNormal s).pending = s.pending := by simp [fallToNormal]

@[simp] theorem safeHalt_frame (f : Failing) (s : State) :
    (safeHalt f s).link = s.link ∧ (safeHalt f s).peers = s.peers ∧ (safeHalt f s).bank = s.bank ∧ (safeHalt f s).store = s.store
      ∧ (safeHalt f s).engine = s.engine ∧ (safeHalt f s).residual = s.residual ∧ (safeHalt f s).atm = s.atm ∧ (safeHalt f s).zone = s.zone
      ∧ (safeHalt f s).tally = s.tally ∧ (safeHalt f s).cfg = s.cfg ∧ (safeHalt f s).uniqueId = s.uniqueId ∧ (safeHalt f s).draws = s.draws
      ∧ (safeHalt f s).pending = s.pending := by simp [safeHalt]

@[simp] theorem takeConfiguration_frame (c : Settings) (s : State) :
    (takeConfiguration c s).link = s.link ∧ (takeConfiguration c s).bank = s.bank ∧ (takeConfiguration c s).engine = s.engine ∧ (takeConfiguration c s).residual = s.residual
      ∧ (takeConfiguration c s).atm = s.atm ∧ (takeConfiguration c s).zone = s.zone ∧ (takeConfiguration c s).tally = s.tally ∧ (takeConfiguration c s).uniqueId = s.uniqueId
      ∧ (takeConfiguration c s).draws = s.draws ∧ (takeConfiguration c s).pending = s.pending := by simp [takeConfiguration]

@[simp] theorem enterListening_frame (s : State) :
    (enterListening s).store = s.store ∧ (enterListening s).engine = s.engine ∧ (enterListening s).residual = s.residual ∧ (enterListening s).atm = s.atm
      ∧ (enterListening s).zone = s.zone ∧ (enterListening s).tally = s.tally ∧ (enterListening s).port = s.port ∧ (enterListening s).cfg = s.cfg
      ∧ (enterListening s).uniqueId = s.uniqueId ∧ (enterListening s).draws = s.draws ∧ (enterListening s).pending = s.pending := by simp [enterListening]

@[simp] theorem makeTransactions_frame (x : LineTransaction) (acks : List Bool) (s : State) :
    (makeTransactions x acks s).link = s.link ∧ (makeTransactions x acks s).peers = s.peers ∧ (makeTransactions x acks s).bank = s.bank
      ∧ (makeTransactions x acks s).store = s.store ∧ (makeTransactions x acks s).engine = s.engine ∧ (makeTransactions x acks s).residual = s.residual
      ∧ (makeTransactions x acks s).atm = s.atm ∧ (makeTransactions x acks s).zone = s.zone ∧ (makeTransactions x acks s).tally = s.tally
      ∧ (makeTransactions x acks s).port = s.port ∧ (makeTransactions x acks s).cfg = s.cfg ∧ (makeTransactions x acks s).uniqueId = s.uniqueId
      ∧ (makeTransactions x acks s).draws = s.draws ∧ (makeTransactions x acks s).pending = s.pending := by simp [makeTransactions]

@[simp] theorem epochTransactions_frame (epoch : Nat) (reads : List (Option Byte)) (writeAcks : List Bool)
    (readBacks : List (Option Byte)) (s : State) :
    (epochTransactions epoch reads writeAcks readBacks s).link = s.link ∧ (epochTransactions epoch reads writeAcks readBacks s).peers = s.peers ∧ (epochTransactions epoch reads writeAcks readBacks s).bank = s.bank
      ∧ (epochTransactions epoch reads writeAcks readBacks s).store = s.store ∧ (epochTransactions epoch reads writeAcks readBacks s).engine = s.engine ∧ (epochTransactions epoch reads writeAcks readBacks s).residual = s.residual
      ∧ (epochTransactions epoch reads writeAcks readBacks s).atm = s.atm ∧ (epochTransactions epoch reads writeAcks readBacks s).zone = s.zone ∧ (epochTransactions epoch reads writeAcks readBacks s).tally = s.tally
      ∧ (epochTransactions epoch reads writeAcks readBacks s).port = s.port ∧ (epochTransactions epoch reads writeAcks readBacks s).cfg = s.cfg ∧ (epochTransactions epoch reads writeAcks readBacks s).uniqueId = s.uniqueId
      ∧ (epochTransactions epoch reads writeAcks readBacks s).draws = s.draws ∧ (epochTransactions epoch reads writeAcks readBacks s).pending = s.pending := by simp [epochTransactions]

@[simp] theorem epochStep_frame (reads : List (Option Byte)) (writeAcks : List Bool) (readBacks : List (Option Byte)) (s : State) :
    (epochStep reads writeAcks readBacks s).store = s.store ∧ (epochStep reads writeAcks readBacks s).engine = s.engine ∧ (epochStep reads writeAcks readBacks s).residual = s.residual ∧ (epochStep reads writeAcks readBacks s).atm = s.atm
      ∧ (epochStep reads writeAcks readBacks s).zone = s.zone ∧ (epochStep reads writeAcks readBacks s).tally = s.tally ∧ (epochStep reads writeAcks readBacks s).cfg = s.cfg ∧ (epochStep reads writeAcks readBacks s).uniqueId = s.uniqueId
      ∧ (epochStep reads writeAcks readBacks s).draws = s.draws ∧ (epochStep reads writeAcks readBacks s).pending = s.pending := by
  unfold epochStep; try dsimp only
  (repeat' split) <;> simp

@[simp] theorem clearReturned_frame (x : EventsReturned) (s : State) :
    (clearReturned x s).link = s.link ∧ (clearReturned x s).peers = s.peers ∧ (clearReturned x s).store = s.store ∧ (clearReturned x s).engine = s.engine
      ∧ (clearReturned x s).residual = s.residual ∧ (clearReturned x s).atm = s.atm ∧ (clearReturned x s).zone = s.zone ∧ (clearReturned x s).tally = s.tally
      ∧ (clearReturned x s).start = s.start ∧ (clearReturned x s).cfg = s.cfg ∧ (clearReturned x s).uniqueId = s.uniqueId ∧ (clearReturned x s).draws = s.draws
      ∧ (clearReturned x s).pending = s.pending := by simp [clearReturned]

@[simp] theorem leaveReply_frame (r : Reply) (s : State) :
    (leaveReply r s).link = s.link ∧ (leaveReply r s).peers = s.peers ∧ (leaveReply r s).store = s.store ∧ (leaveReply r s).engine = s.engine
      ∧ (leaveReply r s).residual = s.residual ∧ (leaveReply r s).atm = s.atm ∧ (leaveReply r s).zone = s.zone ∧ (leaveReply r s).tally = s.tally
      ∧ (leaveReply r s).start = s.start ∧ (leaveReply r s).cfg = s.cfg ∧ (leaveReply r s).uniqueId = s.uniqueId ∧ (leaveReply r s).draws = s.draws
      ∧ (leaveReply r s).pending = s.pending := by
  unfold leaveReply; try dsimp only
  (repeat' split) <;> simp

@[simp] theorem readEvents_frame (tag : Byte) (s : State) :
    (readEvents tag s).link = s.link ∧ (readEvents tag s).peers = s.peers ∧ (readEvents tag s).bank = s.bank ∧ (readEvents tag s).store = s.store
      ∧ (readEvents tag s).engine = s.engine ∧ (readEvents tag s).residual = s.residual ∧ (readEvents tag s).atm = s.atm ∧ (readEvents tag s).zone = s.zone
      ∧ (readEvents tag s).tally = s.tally ∧ (readEvents tag s).start = s.start ∧ (readEvents tag s).cfg = s.cfg ∧ (readEvents tag s).uniqueId = s.uniqueId
      ∧ (readEvents tag s).draws = s.draws ∧ (readEvents tag s).pending = s.pending := by simp [readEvents]

end Sys2Proof.Machine
end

