-- ==== Sys2Proof/Laws/Due.lean ====
section
/-! SUPPORT. When nothing is due, taking what is due changes nothing: a proof about a command of a ready state starts from
here. -/

namespace Sys2Proof.Machine

open Sys2Proof

theorem dueLoss_quiet {s : State} (h : quietLoss s = true) : dueLoss s = s := by
  simp_all [dueLoss, takeMeasurementLoss, quietLoss]

theorem dueRamp_quiet {s : State} (h : quietRamp s = true) : dueRamp s = s := by
  simp only [quietRamp, Bool.and_eq_true, Bool.not_eq_true', Bool.and_eq_false_iff, decide_eq_false_iff_not] at h
  rw [dueRamp, dueLoss_quiet h.1]
  exact if_neg (by have h2 := h.2; simp only [stepping, decide_eq_false_iff_not] at h2; tauto)

theorem dueUnload_quiet {s : State} (h : quietUnload s = true) : dueUnload s = s := by
  simp only [quietUnload, Bool.and_eq_true, Bool.not_eq_true', decide_eq_false_iff_not] at h
  rw [dueUnload, dueRamp_quiet h.1]
  exact if_neg (by tauto)

theorem dueRestCurrent_quiet {s : State} (h : quietRestCurrent s = true) : dueRestCurrent s = s := by
  simp only [quietRestCurrent, Bool.and_eq_true, Bool.not_eq_true', decide_eq_false_iff_not] at h
  rw [dueRestCurrent, dueUnload_quiet h.1]
  exact if_neg (by tauto)

theorem dueLoadStuck_quiet {s : State} (h : quietStuck s = true) : dueLoadStuck s = s := by
  simp only [quietStuck, Bool.and_eq_true, Bool.not_eq_true', decide_eq_false_iff_not] at h
  rw [dueLoadStuck, dueRestCurrent_quiet h.1]
  exact if_neg (by tauto)

theorem dueSettle_quiet {s : State} (h : quietSettle s = true) : dueSettle s = s := by
  simp only [quietSettle, Bool.and_eq_true, Bool.not_eq_true', Bool.and_eq_false_iff, decide_eq_false_iff_not] at h
  rw [dueSettle, dueLoadStuck_quiet h.1]
  exact if_neg (by have h2 := h.2; simp only [settling, decide_eq_false_iff_not] at h2; tauto)

theorem dueRest_quiet {s : State} (h : quietRest s = true) : dueRest s = s := by
  simp only [quietRest, Bool.and_eq_true, Bool.not_eq_true', decide_eq_false_iff_not] at h
  rw [dueRest, dueSettle_quiet h.1]
  exact if_neg (by tauto)

theorem dueCheck_quiet {s : State} (h : quietCheck s = true) : dueCheck s = s := by
  simp only [quietCheck, Bool.and_eq_true, Bool.not_eq_true', decide_eq_false_iff_not] at h
  rw [dueCheck, dueRest_quiet h.1]
  exact if_neg (by tauto)

theorem dueCountdown_quiet {s : State} (h : quietCountdown s = true) : dueCountdown s = s := by
  simp only [quietCountdown, Bool.and_eq_true, Bool.not_eq_true', decide_eq_false_iff_not] at h
  rw [dueCountdown, dueCheck_quiet h.1]
  exact if_neg (by tauto)

theorem dueRunning_quiet {s : State} (h : quietRunning s = true) : dueRunning s = s := by
  simp only [quietRunning, Bool.and_eq_true, Bool.not_eq_true', decide_eq_false_iff_not] at h
  rw [dueRunning, dueCountdown_quiet h.1]
  exact if_neg (by tauto)

theorem dueWindow_quiet {s : State} (h : quietWindow s = true) : dueWindow s = s := by
  simp only [quietWindow, Bool.and_eq_true, Bool.not_eq_true', decide_eq_false_iff_not] at h
  rw [dueWindow, dueRunning_quiet h.1]
  exact if_neg (by tauto)

/-- Where nothing is due, the whole chain is quiet. -/
theorem quietWindow_of_noneDue {s : State} (h : noneDue s = true) : quietWindow s = true := by
  simp only [noneDue, engineQuiet, Bool.and_eq_true, Bool.not_eq_true', decide_eq_false_iff_not] at h
  obtain ⟨⟨⟨⟨⟨⟨⟨⟨⟨h1, h2⟩, h3⟩, h4⟩, h5⟩, h6⟩, h7⟩, h8⟩, h9⟩, -⟩ := h
  simp only [quietWindow, quietRunning, quietCountdown, quietCheck, quietRest, quietSettle, quietStuck,
    quietRestCurrent, quietUnload, quietRamp, quietLoss, Bool.and_eq_true, Bool.not_eq_true', decide_eq_false_iff_not]
  exact ⟨⟨⟨⟨⟨⟨⟨⟨⟨⟨h1, h2⟩, fun h => h3 ⟨h.1, .inl h.2⟩⟩, fun h => h4 ⟨h.1, .inl h.2⟩⟩, fun h => h3 ⟨h.1, .inr h.2⟩⟩,
    h5⟩, fun h => h4 ⟨h.1, .inr h.2⟩⟩, h6⟩, h7⟩, h8⟩, h9⟩

/-- Where nothing is due, no refusal streak is. -/
theorem streaks_of_noneDue {s : State} (h : noneDue s = true) :
    ∀ n ∈ stationNumbers, ¬(0 < (s.peer n).streak ∧ 20 ≤ at1 0 s.store.quiet n) := by
  simp only [noneDue, Bool.and_eq_true, List.all_eq_true, Bool.not_eq_true', decide_eq_false_iff_not] at h
  exact h.2

theorem takeDue_of_noneDue {s : State} (h : noneDue s = true) : takeDue s = s := by
  have hw := quietWindow_of_noneDue h
  have hs := streaks_of_noneDue h
  have fold : ∀ l : List Nat, (∀ n ∈ l, ¬(0 < (s.peer n).streak ∧ 20 ≤ at1 0 s.store.quiet n)) →
      l.foldl (fun s n => takeStreakQuiet n s) s = s := by
    intro l
    induction l with
    | nil => intro _; rfl
    | cons n l ih =>
      intro hl
      have hn : takeStreakQuiet n s = s := if_neg (hl n (List.mem_cons_self ..))
      simpa [hn] using ih (fun m hm => hl m (List.mem_cons_of_mem _ hm))
  simpa [takeDue, dueStreaks, dueWindow_quiet hw] using fold stationNumbers hs

theorem Ready.active {s : State} (h : Ready s) : active s = true := h.1

theorem Ready.takeDue {s : State} (h : Ready s) : takeDue s = s := takeDue_of_noneDue h.2

/-- A command that acts while the blocks are active, in a ready state. -/
theorem whenActive_ready {s : State} (h : Ready s) (act : State → State) : whenActive act s = act s := by
  simp [whenActive, h.takeDue, h.active]

/-- A gated request in a ready state goes to its owning rule. -/
theorem take_ready {s : State} (h : Ready s) (tag : Byte) (body : State → State) :
    take tag body s = .next (body s) := by
  have ha := h.active
  unfold take request
  rw [h.takeDue]
  cases hp : s.start.phase <;> simp_all [Machine.active]

end Sys2Proof.Machine
end

