-- ==== Sys2Proof/Laws/Ops.lean ====
section
/-! SUPPORT. What the shared operations give: tables indexed from 1, entries of the Peer Table, the Pack Store's sums, raised
events, replies, and a frame heard whole. -/

namespace Sys2Proof.Machine

open Sys2Proof

/-! ## Tables indexed from 1 -/

/-- Reading a table after a write: the value at the place written, where the table has it, and the old one elsewhere. -/
theorem at1_set1 {α : Type} {k : Nat} (d : α) (v : Vector α k) (n m : Nat) (x : α) :
    at1 d (set1 v n x) m = if m = n ∧ 1 ≤ n ∧ n ≤ k then x else at1 d v m := by
  unfold at1 set1
  rcases Nat.eq_zero_or_pos n with rfl | hn
  · simp
  · rcases Nat.eq_zero_or_pos m with rfl | hm
    · simp; omega
    · simp only [Nat.ne_of_gt hn, Nat.ne_of_gt hm, if_false, Vector.getElem?_setIfInBounds]
      by_cases h : m = n
      · subst h
        by_cases hk : m ≤ k
        · rw [if_pos rfl, if_pos (by omega : m - 1 < k), if_pos ⟨rfl, by omega, hk⟩]; rfl
        · rw [if_pos rfl, if_neg (by omega : ¬m - 1 < k), if_neg (by omega)]
          simp [show k ≤ m - 1 by omega]
      · rw [if_neg (by omega : ¬n - 1 = m - 1), if_neg (by omega)]

/-- Reading an entry of the Peer Table after one was replaced. -/
theorem peer_setPeer (s : State) (n m : Nat) (e : PeerEntry) :
    (s.setPeer n e).peer m = if m = n ∧ 1 ≤ n ∧ n ≤ 31 then e else s.peer m := at1_set1 ..

theorem peer_setPeer_same {s : State} {n : Nat} (h : stationOk n = true) (e : PeerEntry) : (s.setPeer n e).peer n = e := by
  simp only [stationOk, decide_eq_true_eq] at h
  rw [peer_setPeer, if_pos ⟨rfl, h.1, h.2⟩]

theorem peer_setPeer_other (s : State) {n m : Nat} (h : m ≠ n) (e : PeerEntry) : (s.setPeer n e).peer m = s.peer m := by
  rw [peer_setPeer, if_neg (fun x => h x.1)]

/-- Every field of the Peer Table but the entries stands after an entry was replaced. -/
theorem setPeer_peers (s : State) (n : Nat) (e : PeerEntry) :
    (s.setPeer n e).peers = { s.peers with entries := (s.setPeer n e).peers.entries } := rfl

/-- Entries depend on the Peer Table alone. -/
theorem peer_of_peers {s t : State} (h : t.peers = s.peers) (n : Nat) : t.peer n = s.peer n := by
  simp [State.peer, h]

/-! ## The Pack Store -/

/-- What the refreshing of the Pack Store gives. -/
theorem refreshStore_is (s : State) : StoreIs s.store (refreshStore s) := rfl

/-- The records after `putRecords`, with all that follows from them. -/
theorem putRecords_is (rs : List PackRecord) (s : State) :
    StoreIs { s.store with records := rs } (putRecords rs s) := rfl

/-- The reservations after `putReservations`, with all that follows from them. -/
theorem putReservations_is (rs : List Reservation) (s : State) :
    StoreIs { s.store with reservations := rs } (putReservations rs s) := rfl

/-- `StoreIs` sees only the Pack Store, the level, the link state, the atmosphere state and the configuration. -/
theorem storeIs_congr {u : PackStore} {s t : State} (h : StoreIs u s) (hs : t.store = s.store)
    (hz : t.zone.level = s.zone.level) (hl : t.link.state = s.link.state) (ha : t.atm.state = s.atm.state)
    (hc : t.cfg = s.cfg) : StoreIs u t := by
  have hp : permitHolds t = permitHolds s := by simp [permitHolds, hs, hz, hl]
  have he : effectiveLimit t = effectiveLimit s := by simp only [effectiveLimit, ha, hc]
  unfold StoreIs at *
  rw [hs, hp, he, hc]
  exact h

/-- A changed handoff note, after what `StoreIs` says of the rest. -/
theorem storeIs_handoffNote {u : PackStore} {s : State} (h : StoreIs u s) (id : PackId) (n : Nat)
    (o : HandoffOutcome) :
    StoreIs { u with note := some { packId := id, station := n, outcome := o } } (handoffNote id n o s) := by
  have hp : permitHolds (handoffNote id n o s) = permitHolds s := rfl
  have he : effectiveLimit (handoffNote id n o s) = effectiveLimit s := rfl
  have hs : (handoffNote id n o s).store =
      { s.store with note := some { packId := id, station := n, outcome := o } } := rfl
  unfold StoreIs at *
  rw [hp, he, hs, h]
  rfl

/-- The record with a pack ID after an update of that pack ID. -/
theorem findRecord_update {id : PackId} {s : State} {r : PackRecord} (h : findRecord id s = some r)
    (f : PackRecord → PackRecord) (hf : ∀ x, (f x).id = x.id) : findRecord id (updateRecord id f s) = some (f r) := by
  have key : ∀ l : List PackRecord, l.find? (fun r => decide (r.id = id)) = some r →
      (l.map (fun r => if r.id = id then f r else r)).find? (fun r => decide (r.id = id)) = some (f r) := by
    intro l
    induction l with
    | nil => intro hl; cases hl
    | cons a l ih =>
      intro hl
      by_cases ha : a.id = id
      · have he : a = r := by simpa [List.find?_cons, ha] using hl
        subst he
        simp [ha, hf]
      · have hl' : l.find? (fun r => decide (r.id = id)) = some r := by simpa [List.find?_cons, ha] using hl
        simpa [List.find?_cons, ha] using ih hl'
  exact key _ h

/-- An update of a record leaves the records as `recordsWith` gives them, and the rest of the store follows. -/
theorem updateRecord_is (id : PackId) (f : PackRecord → PackRecord) (s : State) :
    StoreIs { s.store with records := recordsWith id f s } (updateRecord id f s) := rfl

/-- Two updates of one record are one. -/
theorem recordsWith_twice (id : PackId) (f g : PackRecord → PackRecord) (hf : ∀ x, (f x).id = x.id) (s : State) :
    (recordsWith id f s).map (fun r => if r.id = id then g r else r) = recordsWith id (fun x => g (f x)) s := by
  simp only [recordsWith, List.map_map]
  refine List.map_congr_left (fun a _ => ?_)
  by_cases h : a.id = id <;> simp [h, hf]

/-- An update of the bound record's data. -/
theorem updateBound_is {s : State} {id : PackId} (h : s.engine.bound = some id) (f : PackData → PackData) :
    updateBound f s = updateRecord id (·.withData f) s := by
  simp [updateBound, h]; rfl

/-! ## The Discharge Engine -/

/-- The engine after its target was recomputed. -/
theorem recomputeTarget_engine {s : State} {r : PackRecord} (h : boundRecord s = some r) :
    (recomputeTarget s).engine = { s.engine with
      iCmd := commandedCurrent s r.data
      target := targetStep s (commandedCurrent s r.data)
      settleTimer :=
        if targetStep s (commandedCurrent s r.data) ≠ s.engine.target ∧ (s.engine.state = .ramp ∨ s.engine.state = .run)
        then some s.cfg.settleTimeout else s.engine.settleTimer } := by
  simp only [recomputeTarget, h]; split <;> simp_all

/-- The engine after its entry into FAULT, its bound record and the port. -/
theorem enterFault_is {s : State} {id : PackId} (h : s.engine.bound = some id) (c : FaultCause) :
    (enterFault c s).engine = { s.engine.opened .fault with
        faultCause := some c
        checkTimer := none
        endNote := some { packId := id, outcome := .faulted c } }
      ∧ StoreIs { s.store with
          records := recordsWith id (·.withData (addHistory s.cfg.station .faulted)) s } (enterFault c s)
      ∧ (enterFault c s).port = (raise .dischargeFault s).port := by
  refine ⟨?_, ?_, ?_⟩
  · simp [enterFault, endNote, updateBound, h, onEngine, Engine.enter, Engine.setPresent, Engine.opened, contactorClosed]
  · simp [enterFault, endNote, updateBound, h, onEngine, Engine.enter, Engine.setPresent, contactorClosed]
    rfl
  · simp [enterFault, raise]

/-! ## The handoff queue -/

/-- Placing a handoff frame depends on the link alone, and keeps its state. -/
theorem placeHandoff_link {s t : State} (f : HandoffFrame) (h : t.link = s.link) :
    (placeHandoff f t).link = (placeHandoff f s).link := by
  unfold placeHandoff; rw [h]; split <;> simp only [h]
  split <;> simp

@[simp] theorem placeHandoff_state (f : HandoffFrame) (s : State) :
    (placeHandoff f s).link.state = s.link.state := by
  unfold placeHandoff; split
  · rfl
  · split <;> rfl

/-- An ALARM placed at an ACTIVE link stands in its slot. -/
theorem placeAlarm_slot (f : AlarmFrame) {s : State} (h : s.link.state = .active) :
    (placeAlarm f s).link.alarmSlot = some f := by
  unfold placeAlarm
  rw [if_neg (by simp [h])]
  simp only [State.withLink]
  split <;> rfl

/-! ## Events and replies -/

/-- What raising a kind does to the counts, and to nothing of the port but the attention output. -/
theorem raise_port (k : EventKind) (s : State) :
    (raise k s).port = { s.port with
      counts := set1 s.port.counts (kindNumber k) (satSucc 255 (at1 0 s.port.counts (kindNumber k)))
      attention := attentionOf
        (set1 s.port.counts (kindNumber k) (satSucc 255 (at1 0 s.port.counts (kindNumber k)))) s.port.kindMasks } := rfl

/-- The pending reply after one was formed. -/
theorem formReply_pending (r : Reply) (s : State) :
    (formReply r s).port.pendingReply = some { r with overrun := s.port.pendingReply.isSome } := by
  unfold formReply; split <;> simp_all

/-! ## Frames heard whole -/

/-- A frame of another station, within its ranges and addressed here or to all, goes to its block. -/
theorem hearFrame_heard {s : State} (h : Ready s) (ha : s.link.attempt = none) {ok : Bool} {n : Nat} {d : Option Nat}
    (act : State → State) (hok : ok = true) (hn : n ≠ s.cfg.station) (hd : ∀ x, d = some x → x = s.cfg.station) :
    hearFrame ok n d act s = act s := by
  unfold hearFrame receiving
  simp only [h.active, ha, hok, hn]
  cases d <;> simp_all

end Sys2Proof.Machine
end

