-- ==== Sys2Proof/Laws/Handover.lean ====
section
/-! SUPPORT. What the blocks hand on to each other, each operation said once in the terms of Safety: a change of the own
level, the rising evaluation, strict mode, a peer's handover and restart, the ending of exchanges, the examination for an
offer, entry into CLASHED, the Atmosphere Unit at a handover, a disputed record and a consumed pack. -/

namespace Sys2Proof.Machine

open Sys2Proof

/-! ## Handoff frames placed in a row -/

theorem placedAll_cons (f : HandoffFrame) (fs : List HandoffFrame) (s : State) :
    placedAll (f :: fs) s = placedAll fs (placeHandoff f s) := rfl

theorem placedAll_append (fs gs : List HandoffFrame) (s : State) :
    placedAll (fs ++ gs) s = placedAll gs (placedAll fs s) := by
  simp [placedAll]

theorem placedAll_only (fs : List HandoffFrame) : ∀ s : State, OnlyChanges [.link] s (placedAll fs s) := by
  induction fs with
  | nil => intro s b _; cases b <;> rfl
  | cons f fs ih =>
    intro s b hb
    have h := ih (placeHandoff f s) b hb
    rw [placedAll_cons]
    cases b <;> simp_all [sameBlock]

theorem placedAll_link (fs : List HandoffFrame) :
    ∀ {s t : State}, t.link = s.link → (placedAll fs t).link = (placedAll fs s).link := by
  induction fs with
  | nil => intro s t h; exact h
  | cons f fs ih => intro s t h; exact ih (placeHandoff_link f h)

@[simp] theorem placedAll_state (fs : List HandoffFrame) : ∀ s : State, (placedAll fs s).link.state = s.link.state := by
  induction fs with
  | nil => intro s; rfl
  | cons f fs ih => intro s; rw [placedAll_cons, ih]; simp

@[simp] theorem placedAll_frame (fs : List HandoffFrame) (s : State) :
    (placedAll fs s).peers = s.peers ∧ (placedAll fs s).bank = s.bank ∧ (placedAll fs s).store = s.store
      ∧ (placedAll fs s).engine = s.engine ∧ (placedAll fs s).residual = s.residual ∧ (placedAll fs s).atm = s.atm
      ∧ (placedAll fs s).zone = s.zone ∧ (placedAll fs s).tally = s.tally ∧ (placedAll fs s).port = s.port
      ∧ (placedAll fs s).start = s.start ∧ (placedAll fs s).cfg = s.cfg ∧ (placedAll fs s).uniqueId = s.uniqueId
      ∧ (placedAll fs s).draws = s.draws ∧ (placedAll fs s).pending = s.pending := by
  have h := placedAll_only fs s
  refine ⟨h .peers (by decide), h .bank (by decide), h .store (by decide), h .engine (by decide),
    h .residual (by decide), h .atm (by decide), h .zone (by decide), h .tally (by decide), h .port (by decide),
    h .start (by decide), h .cfg (by decide), h .uniqueId (by decide), h .draws (by decide), h .pending (by decide)⟩

/-- CANCELs placed in a row by a fold. -/
theorem placeCancels {α : Type} (n : α → Nat) (i : α → PackId) (o : α → Nat) (r : CancelReason) (l : List α) (s : State) :
    l.foldl (fun s x => placeCancel (n x) (i x) (o x) r s) s
      = placedAll (l.map (fun x => cancelTo s (n x) (i x) (o x) r)) s := by
  have key : ∀ (l : List α) (t : State), t.cfg = s.cfg →
      l.foldl (fun s x => placeCancel (n x) (i x) (o x) r s) t
        = placedAll (l.map (fun x => cancelTo s (n x) (i x) (o x) r)) t := by
    intro l
    induction l with
    | nil => intro t _; rfl
    | cons a l ih =>
      intro t ht
      have ha : placeCancel (n a) (i a) (o a) r t = placeHandoff (cancelTo s (n a) (i a) (o a) r) t := by
        simp [placeCancel, cancelTo, headTo, ht]
      simp only [List.foldl_cons, List.map_cons, placedAll_cons]
      rw [ih _ (by simp [placeCancel, ht]), ha]
  exact key l s rfl


/-! ## One block's part -/

theorem placeAlarm_is (f : AlarmFrame) (s : State) : placeAlarm f s = s.withLink (s.link.withAlarm f) := by
  obtain ⟨⟨st, _, _, _, _, _, _, _, _, _, _, _, _, _, att⟩, _⟩ := s
  cases st
  · cases att with
    | none => rfl
    | some a =>
      obtain ⟨fr, rep, _, _⟩ := a
      cases fr <;> cases rep <;> rfl
  · rfl

theorem placeJoin_is (f : JoinFrame) (s : State) : placeJoin f s = s.withLink (s.link.withJoin f) := by
  obtain ⟨⟨st, _, _, _, _, _, _, _, _, _, _, _, _, _, att⟩, _⟩ := s
  cases st
  · cases att with
    | none => rfl
    | some a =>
      obtain ⟨fr, rep, _, _⟩ := a
      cases fr <;> cases rep <;> rfl
  · rfl

theorem placeState_is (f : StateFrame) (s : State) : placeState f s = s.withLink (s.link.withState f) := by
  obtain ⟨⟨st, _, _, slot, _, _, _, _, _, _, _, _, _, _, att⟩, _⟩ := s
  cases st
  · cases slot with
    | none => rfl
    | some f0 =>
      cases att with
      | none => rfl
      | some a =>
        obtain ⟨fr, rep, _, _⟩ := a
        cases fr <;> cases rep <;> rfl
  · rfl

theorem orderUnload_is (p : UnloadPurpose) (s : State) : orderUnload p s = s.withEngine (s.engine.ordered p) := by
  unfold orderUnload Engine.ordered
  cases h : s.engine.state <;>
    simp [beginUnload, onEngine, Engine.enter, Engine.unloading, contactorClosed, State.withEngine, h]

theorem recomputeUnderLoad_is (s : State) : recomputeUnderLoad s = s.withEngine (retargeted s) := by
  unfold recomputeUnderLoad recomputeTarget retargeted boundRecord
  cases hb : s.engine.bound.bind (fun id => findRecord id s) with
  | none => simp [State.withEngine]
  | some r =>
    cases h : s.engine.state <;> simp [State.withEngine, h] <;> split <;> simp_all

theorem dropFeed_is (c : PermitLoss) (s : State) : dropFeed c s = s.withAtm (feedDropped c s) := by
  unfold dropFeed feedDropped
  cases hp : s.atm.feedPermit
  · simp [State.withAtm, ← hp]
  · cases hf : feedingRecord s <;> simp [feedNote, State.withAtm]

theorem closeLot_is (r : CloseReason) (s : State) :
    closeLot r s = { s with tally := s.tally.lotClosed r, port := lotClosedPort s } := by
  unfold closeLot Tally.lotClosed lotClosedPort
  cases h : s.tally.openLot <;> simp [raise, State.withTally, State.withPort]

/-- The FEEDING record is the same where only records in an exchange changed their state to another. -/
theorem feeding_map {f : PackRecord → PackRecord} (hf : ∀ r, r.state = .feeding → f r = r)
    (hn : ∀ r, r.state ≠ .feeding → (f r).state ≠ .feeding) (l : List PackRecord) :
    (l.map f).find? (fun r => decide (r.state = .feeding)) = l.find? (fun r => decide (r.state = .feeding)) := by
  induction l with
  | nil => rfl
  | cons a l ih =>
    by_cases h : a.state = .feeding
    · simp [h, hf a h]
    · simp [h, hn a h, ih]

/-- The store of a rise to an ALARM level. -/
def alarmedStore (s : State) : PackStore :=
  { s.store with
    records := s.store.records.map (fun r =>
      if r.state = .offered then r.stopped .ready else if r.state = .inTransit then r.stopped .halted else r)
    reservations := [] }

theorem cancelTo_cfg {s t : State} (h : t.cfg = s.cfg) : cancelTo t = cancelTo s := by
  funext n i o r; simp [cancelTo, headTo, h]

@[simp] theorem cancelTo_putRecords (rs : List PackRecord) (s : State) : cancelTo (putRecords rs s) = cancelTo s :=
  cancelTo_cfg (by simp)

@[simp] theorem cancelTo_putReservations (rs : List Reservation) (s : State) :
    cancelTo (putReservations rs s) = cancelTo s := cancelTo_cfg (by simp)

@[simp] theorem cancelTo_placedAll (fs : List HandoffFrame) (s : State) : cancelTo (placedAll fs s) = cancelTo s :=
  cancelTo_cfg (by simp)

/-- What the cancels of a rise to an ALARM level do. -/
theorem zoneAlarmCancel_is (s : State) :
    StoreIs (alarmedStore s) (zoneAlarmCancel s) ∧ (zoneAlarmCancel s).link = (placedAll (alarmCancels s) s).link
      ∧ OnlyChanges [.link, .store] s (zoneAlarmCancel s) := by
  unfold zoneAlarmCancel alarmCancels
  simp only [placeCancels, placedAll_append]
  refine ⟨?_, ?_, ?_⟩
  · unfold StoreIs
    simp [alarmedStore, PackRecord.into, PackRecord.stopped, permitHolds, effectiveLimit, putReservations, putRecords, refreshStore]
  · simp only [cancelTo_putReservations, cancelTo_putRecords, cancelTo_placedAll, placedAll_frame]
    refine placedAll_link _ ?_
    exact placedAll_link _ rfl
  · intro b hb
    cases b <;> simp_all [sameBlock]

/-! ## A change of the own level -/

theorem engineTakesLevel_is (old new : ZoneLevel) (s : State) :
    engineTakesLevel old new s = s.withEngine
      (if risesToAlarm old new then s.engine.ordered (.handBack .alarm)
       else if 2 ≤ levelRank new then s.engine else retargeted s) := by
  unfold engineTakesLevel isAlarm
  by_cases h1 : levelRank old < 2 <;> by_cases h2 : 2 ≤ levelRank new <;>
    simp [h1, h2, orderUnload_is, recomputeUnderLoad_is, State.withEngine, risesToAlarm]

theorem tallyTakesLevel_is (old new : ZoneLevel) (s : State) :
    tallyTakesLevel old new s = (if risesToAlarm old new then
      { s with tally := s.tally.lotClosed .alarm, port := lotClosedPort s } else s) := by
  unfold tallyTakesLevel isAlarm
  by_cases h1 : levelRank old < 2 <;> by_cases h2 : 2 ≤ levelRank new <;> simp [h1, h2, closeLot_is, risesToAlarm]

/-- The feed permit after a drop depends on the atmosphere and the FEEDING record alone. -/
theorem feedDropped_congr {s t : State} (c : PermitLoss) (ha : t.atm = s.atm) (hf : feedingRecord t = feedingRecord s) :
    feedDropped c t = feedDropped c s := by
  simp [feedDropped, ha, hf]

theorem feedDropped_state (c : PermitLoss) (s : State) : (feedDropped c s).state = s.atm.state := rfl

/-- A port depends on the port before it alone. -/
theorem raise_port_congr {s t : State} (k : EventKind) (h : t.port = s.port) : (raise k t).port = (raise k s).port := by
  simp [raise, h]

theorem feeding_alarmed (s t : State) (h : t.store.records = (alarmedStore s).records) :
    feedingRecord t = feedingRecord s := by
  unfold feedingRecord
  rw [h]
  exact feeding_map (by intro r h; simp [h]) (by intro r h; split_ifs <;> simp_all [PackRecord.stopped]) _

/-- The zone of a change of the own level, but for its note. -/
theorem atLevel_is (l : ZoneLevel) (flag : Bool) (cause : Option ZoneCause) (delay : Nat) (z : Zone) :
    z.atLevel l flag cause delay = { z with
      level := l, testFlag := flag, cause := cause
      releaseCount := if l = .countdown then 100 * delay else if l = .released then z.releaseCount else 0
      countdown := decide (l = .countdown), endDue := false
      suppression := z.suppression || decide (l = .released) } := by
  unfold Zone.atLevel; by_cases h : l = .released <;> simp [h]

theorem withAlarm_state (f : AlarmFrame) (l : Link) : (l.withAlarm f).state = l.state := by
  unfold Link.withAlarm; cases h : l.state <;> simp [h]

/-- A rise to an ALARM level after the zone, the link and the engine have changed: the store's part and the rest. -/
theorem alarmRise_is (Z : Zone) (L : Link) (E : Engine) (o : Origin) (s : State) (hL : L.state = s.link.state) :
    let x := zoneAlarmCancel { s with zone := Z, link := L, engine := E }
    let y := x.withAtm (feedDropped .zone x)
    let t := noteZone o { y with tally := y.tally.lotClosed .alarm, port := lotClosedPort y }
    t.zone = { Z with note := some { level := Z.level, testFlag := Z.testFlag, cause := Z.cause, origin := o } }
      ∧ t.link = (placedAll (alarmCancels s) { s with link := L }).link ∧ t.engine = E ∧ StoreIs (alarmedStore s) t
      ∧ t.atm = feedDropped .zone s ∧ t.tally = s.tally.lotClosed .alarm
      ∧ t.port = (raise .zoneChange { s with port := lotClosedPort s }).port
      ∧ OnlyChanges [.zone, .link, .engine, .store, .atm, .tally, .port] s t := by
  intro x y t
  obtain ⟨hS, hK, hO⟩ := zoneAlarmCancel_is { s with zone := Z, link := L, engine := E }
  have hx : x.zone = Z ∧ x.engine = E ∧ x.atm = s.atm ∧ x.tally = s.tally ∧ x.port = s.port ∧ x.cfg = s.cfg := by
    simp [x]
  have hf : feedDropped .zone x = feedDropped .zone s :=
    feedDropped_congr _ hx.2.2.1 (feeding_alarmed s _ (by rw [hS]; rfl))
  have hk : x.link = (placedAll (alarmCancels s) { s with link := L }).link := by
    rw [hK]
    simp only [alarmCancels, cancelTo_cfg (s := s) (t := { s with zone := Z, link := L, engine := E }) rfl]
    exact placedAll_link _ rfl
  have hs : x.link.state = s.link.state := by rw [hk]; simp [hL]
  refine ⟨by simp [t, y, noteZone, hx.1], by simp [t, y, noteZone, hk], by simp [t, y, noteZone, hx], ?_,
    by simp [t, y, noteZone, hf], by simp [t, y, noteZone, hx], ?_, ?_⟩
  · refine storeIs_congr hS ?_ ?_ ?_ ?_ ?_ <;> simp [t, y, noteZone, feedDropped_state, x]
  · simp [t, y, noteZone, lotClosedPort, raise, hx]
  · intro b hb
    cases b <;> simp at hb <;> simp [sameBlock, t, y, noteZone, x]

/-- What a change of the own level does. -/
theorem changeLevel_is (l : ZoneLevel) (flag : Bool) (cause : Option ZoneCause) (o : Origin) (s : State) :
    LevelChanged l flag cause o s (changeLevel l flag cause o s) := by
  by_cases hr : risesToAlarm s.zone.level l
  · have h1 : ¬2 ≤ levelRank s.zone.level := by have := hr.1; omega
    have hn : l ≠ .normal := by rintro rfl; exact absurd hr.2 (by decide)
    obtain ⟨h1, h2, h3, h4, h5, h6, h7, h8⟩ := alarmRise_is (s.zone.atLevel l flag cause s.cfg.releaseDelay)
      (s.link.withAlarm (alarmFrameOf s l flag cause)) (s.engine.ordered (.handBack .alarm)) o s (withAlarm_state ..)
    have e : changeLevel l flag cause o s =
        (let x := zoneAlarmCancel { s with
          zone := s.zone.atLevel l flag cause s.cfg.releaseDelay
          link := s.link.withAlarm (alarmFrameOf s l flag cause)
          engine := s.engine.ordered (.handBack .alarm) }
        let y := x.withAtm (feedDropped .zone x)
        noteZone o { y with tally := y.tally.lotClosed .alarm, port := lotClosedPort y }) := by
      unfold changeLevel
      simp only [placeAlarm_is, engineTakesLevel_is, tallyTakesLevel_is, storeTakesLevel, dropFeed_is, isAlarm]
      rw [if_pos hr, if_neg hn, if_pos hr, if_pos (by simp [hr.2]; omega)]
      rfl
    rw [e]
    refine ⟨h1.trans (by rw [atLevel_is]), ?_, ?_, ?_, ?_, ?_, ?_, h8⟩
    · rw [if_pos hr]; exact h2
    · rw [if_pos hr]; exact h3
    · rw [if_pos hr]; exact h4
    · rw [if_neg hn]; exact h5
    · rw [if_pos hr]; exact h6
    · rw [if_pos hr]; exact h7
  · have e : changeLevel l flag cause o s =
        (let Z := s.zone.atLevel l flag cause s.cfg.releaseDelay
        let x := refreshStore { s with
          zone := Z
          link := s.link.withAlarm (alarmFrameOf s l flag cause)
          engine := if 2 ≤ levelRank l then s.engine else retargeted { s with zone := Z } }
        noteZone o (x.withAtm (if l = .normal then s.atm else feedDropped .zone s))) := by
      unfold changeLevel
      simp only [placeAlarm_is, engineTakesLevel_is, tallyTakesLevel_is, storeTakesLevel, dropFeed_is, isAlarm]
      rw [if_neg hr, if_neg hr,
        if_neg (c := decide (2 ≤ levelRank s.zone.level) = false ∧ decide (2 ≤ levelRank l) = true)
          (by simpa [risesToAlarm] using hr)]
      by_cases hn : l = .normal
      · rw [if_pos hn, if_pos hn]; rfl
      · rw [if_neg hn, if_neg hn]; rfl
    rw [e]
    refine ⟨?_, ?_, ?_, ?_, ?_, ?_, ?_, ?_⟩
    · simp [noteZone, atLevel_is]
    · rw [if_neg hr]; simp [noteZone, placedAll]
    · rw [if_neg hr]; rfl
    · rw [if_neg hr]
      by_cases hn : l = .normal
      · simp only [hn]; rfl
      · simp only [hn, if_false]; rfl
    · simp [noteZone]
    · simp [noteZone, hr]
    · rw [if_neg hr]; simp [noteZone, raise]
    · intro b hb; cases b <;> simp at hb <;> simp [sameBlock, noteZone]

/-! ## The rising evaluation and strict mode -/

theorem mem_realDetectors (s : State) (n : Nat) : n ∈ realDetectors s ↔ RealSet s n := by
  simp only [realDetectors, RealSet, channelAt, List.mem_filter, Bool.and_eq_true, Bool.not_eq_true']
  constructor
  · rintro ⟨h, h1, h2⟩
    simp at h
    exact ⟨by omega, by omega, h1, h2⟩
  · rintro ⟨h1, h2, h3, h4⟩
    refine ⟨?_, h3, h4⟩
    simp; omega

theorem mem_setDetectors (s : State) (n : Nat) : n ∈ setDetectors s ↔ AnySet s n := by
  simp only [setDetectors, AnySet, List.mem_filter]
  constructor
  · rintro ⟨h, h1⟩
    simp at h
    exact ⟨by omega, by omega, h1⟩
  · rintro ⟨h1, h2, h3⟩
    refine ⟨?_, h3⟩
    simp; omega

theorem realDetectors_isEmpty (s : State) : (realDetectors s).isEmpty = true ↔ ∀ a, ¬RealSet s a := by
  rw [List.isEmpty_iff, List.eq_nil_iff_forall_not_mem]
  simp only [mem_realDetectors]

theorem setDetectors_isEmpty (s : State) : (setDetectors s).isEmpty = true ↔ ∀ a, ¬AnySet s a := by
  rw [List.isEmpty_iff, List.eq_nil_iff_forall_not_mem]
  simp only [mem_setDetectors]

theorem mem_members (s : State) (n : Nat) : n ∈ members s ↔ stationOk n = true ∧ isMember s n = true := by
  simp only [members, List.mem_filter, stationNumbers, List.mem_map, List.mem_range, stationOk, decide_eq_true_eq]
  constructor
  · rintro ⟨⟨k, hk, rfl⟩, h⟩
    exact ⟨by omega, h⟩
  · rintro ⟨h, hm⟩
    exact ⟨⟨n - 1, by omega, by omega⟩, hm⟩

theorem confirming_iff (s : State) : confirming false s = true ↔ Confirms s := by
  simp only [confirming, Confirms, memberWitness, Bool.or_eq_true, Bool.and_eq_true, List.any_eq_true, decide_eq_true_eq,
    Bool.not_eq_true', Bool.false_or, mem_realDetectors, mem_members]
  have he : (realDetectors s).isEmpty = false ↔ ∃ a, RealSet s a := by
    rw [← Bool.not_eq_true, realDetectors_isEmpty]; push Not; rfl
  rw [he]
  constructor
  · rintro (⟨a, ha, b, hb, h⟩ | ⟨ha, n, ⟨h1, h2⟩, h3⟩)
    · exact .inl ⟨a, b, ha, hb, h⟩
    · exact .inr ⟨ha, n, h1, h2, h3⟩
  · rintro (⟨a, b, ha, hb, h⟩ | ⟨ha, n, h1, h2, h3⟩)
    · exact .inl ⟨a, ha, b, hb, h⟩
    · exact .inr ⟨ha, n, ⟨h1, h2⟩, h3⟩

open Classical in
/-- The demanded level is the one the standing inputs demand, and no other is. -/
theorem demands_iff (s : State) (d : ZoneLevel) : Demands s d ↔ d = demanded s := by
  have hr : (realDetectors s).isEmpty = false ↔ ∃ a, RealSet s a := by
    rw [← Bool.not_eq_true, realDetectors_isEmpty]; push Not; rfl
  have ha : (setDetectors s).isEmpty = false ↔ ∃ a, AnySet s a := by
    rw [← Bool.not_eq_true, setDetectors_isEmpty]; push Not; rfl
  have hra : (∃ a, RealSet s a) → ∃ a, AnySet s a := fun ⟨a, h1, h2, h3, _⟩ => ⟨a, h1, h2, h3⟩
  have hcr : Confirms s → ∃ a, RealSet s a := by
    rintro (⟨a, _, h, _⟩ | ⟨h, _⟩); exacts [⟨a, h⟩, h]
  have hn : (∀ a, ¬AnySet s a) ↔ ¬∃ a, AnySet s a := by push Not; rfl
  have hc : confirming false s = decide (Confirms s) := by rw [Bool.eq_iff_iff, confirming_iff, decide_eq_true_iff]
  have hr' : (realDetectors s).isEmpty = !decide (∃ a, RealSet s a) := by
    rw [← Bool.not_eq_eq_eq_not, Bool.eq_iff_iff, Bool.not_eq_true', hr, decide_eq_true_iff]
  have ha' : (setDetectors s).isEmpty = !decide (∃ a, AnySet s a) := by
    rw [← Bool.not_eq_eq_eq_not, Bool.eq_iff_iff, Bool.not_eq_true', ha, decide_eq_true_iff]
  unfold demanded
  rw [hc, hr', ha']
  by_cases h1 : Confirms s
  · cases d <;> simp [Demands, h1, hn, hra (hcr h1)]
  · by_cases h2 : ∃ a, RealSet s a
    · by_cases h3 : s.zone.strictInForce = true
      · cases d <;> simp [Demands, h1, hn, h2, h3, hra h2]
      · cases d <;> simp [Demands, h1, hn, h2, h3, hra h2]
    · by_cases h3 : ∃ a, AnySet s a
      · cases d <;> simp [Demands, h1, hn, h2, h3]
      · cases d <;> simp [Demands, h1, hn, h2, h3]

/-- A filtered list of the four numbers begins with the least that passes. -/
theorem head_least {p : Nat → Bool} {a : Nat} (h : ([1, 2, 3, 4].filter p).head? = some a) :
    a ∈ [1, 2, 3, 4].filter p ∧ ∀ b, b < a → b ∉ [1, 2, 3, 4].filter p := by
  cases h1 : p 1 <;> cases h2 : p 2 <;> cases h3 : p 3 <;> cases h4 : p 4 <;>
    simp_all <;> (try subst h) <;> (try omega)

theorem ownCause_is (s : State) (h : ∃ a, AnySet s a) : OwnCause s (ownCause s) := by
  unfold ownCause
  cases hr : (realDetectors s) with
  | cons a l =>
    have hh : (realDetectors s).head? = some a := by rw [hr]; rfl
    obtain ⟨h1, h2⟩ := head_least hh
    exact ⟨a, rfl, .inl ⟨(mem_realDetectors s a).1 h1, fun b hb => fun hx => h2 b hb ((mem_realDetectors s b).2 hx)⟩⟩
  | nil =>
    have he : ∀ b, ¬RealSet s b := by
      intro b hb; rw [← mem_realDetectors, hr] at hb; cases hb
    cases hs : (setDetectors s) with
    | nil =>
      obtain ⟨a, ha⟩ := h
      rw [← mem_setDetectors, hs] at ha; cases ha
    | cons a l =>
      have hh : (setDetectors s).head? = some a := by rw [hs]; rfl
      obtain ⟨h1, h2⟩ := head_least hh
      exact ⟨a, rfl, .inr ⟨he, (mem_setDetectors s a).1 h1,
        fun b hb => fun hx => h2 b hb ((mem_setDetectors s b).2 hx)⟩⟩

/-- A rise to ALARM CONFIRMED from below it. -/
theorem confirmRise_is (cause : ZoneCause) (o : Origin) {s : State} (h : levelRank s.zone.level < 3) :
    LevelChanged (confirmedLevel s) false (some cause) o s (confirmRise cause o s) := by
  unfold confirmRise
  rw [if_neg (Nat.not_le.2 h)]
  exact changeLevel_is ..

/-- What the rising evaluation does. -/
theorem risingEvaluation_is (s : State) : RisingEvaluated s (risingEvaluation s) := by
  have hd : ∀ d, Demands s d ↔ d = demanded s := demands_iff s
  have he : (realDetectors s).isEmpty = false ↔ ∃ a, RealSet s a := by
    rw [← Bool.not_eq_true, realDetectors_isEmpty]; push Not; rfl
  refine ⟨?_, ?_, ?_⟩
  · intro d h hl
    rw [hd] at h; subst h
    have hany : ∃ a, AnySet s a := by
      by_contra hn
      push Not at hn
      have : demanded s = .normal := ((hd .normal).1 hn).symm
      rw [this] at hl; exact absurd hl (by simp [levelRank])
    unfold risingEvaluation
    simp only [hl, if_true]
    by_cases hc : demanded s = .alarmConfirmed
    · refine ⟨ownCause s, false, ownCause_is s hany, by simp [hc], ?_⟩
      rw [if_pos hc, if_pos hc]
      exact confirmRise_is _ _ (by rw [hc] at hl; exact hl)
    · refine ⟨ownCause s, decide (demanded s = .prealarm) && (realDetectors s).isEmpty, ownCause_is s hany, ?_, ?_⟩
      · rw [Bool.and_eq_true, decide_eq_true_eq, realDetectors_isEmpty]
      · rw [if_neg hc, if_neg hc]
        exact changeLevel_is ..
  · intro d h hl hp hf hr
    rw [hd] at h; subst h
    unfold risingEvaluation
    rw [if_neg (by omega), if_pos ⟨hp, hf, he.2 hr⟩]
    simp only [clearTestFlag, placeAlarm_is, noteZone, State.withZone, State.withLink, ownAlarm, alarmFrameOf, hp]
  · intro d h hl hn
    rw [hd] at h; subst h
    unfold risingEvaluation
    rw [if_neg (by omega), if_neg (by rw [he]; exact hn)]

/-- Strict mode formed afresh. -/
theorem refreshStrict_is (s : State) : StrictFormed s (refreshStrict s) := by
  refine ⟨?_, ?_, rfl⟩
  · simp [refreshStrict, or_assoc]
  · simp only [refreshStrict, State.withZone, Bool.or_eq_true, List.any_eq_true, mem_members]
    constructor
    · rintro (h | ⟨n, ⟨h1, h2⟩, h3⟩)
      · exact .inl h
      · exact .inr ⟨n, h1, h2, h3⟩
    · rintro (h | ⟨n, h1, h2, h3⟩)
      · exact .inl h
      · exact .inr ⟨n, ⟨h1, h2⟩, h3⟩

/-- What follows from a change of a source of the own strict request. -/
theorem strictChanged_is (s : State) : StrictTaken s (strictChanged s) := by
  refine ⟨refreshStrict s, refreshStrict_is s, ?_, ?_⟩
  · intro h; unfold strictChanged; simp [h]
  · intro h; unfold strictChanged; simp only [ne_eq, h, not_false_eq_true, if_true]; exact risingEvaluation_is _

/-! ## A peer's handover -/

/-- A member's rise. -/
theorem memberRise_is (old new : ZoneLevel) (o : Origin) (s : State) :
    MemberRises old new o s (if levelRank old < levelRank new then memberRise new o s else s) := by
  unfold memberRise
  refine ⟨?_, ?_, ?_⟩
  · rintro h rfl h2
    rw [if_pos h, if_neg (by decide), if_pos ⟨rfl, h2⟩]
    exact changeLevel_is ..
  · intro h h3 hs
    rw [if_pos h, if_pos h3]
    exact confirmRise_is _ _ hs
  · intro h
    by_cases h1 : levelRank old < levelRank new
    · rw [if_pos h1]
      by_cases h3 : 3 ≤ levelRank new
      · rw [if_pos h3, confirmRise, if_pos (by by_contra hx; exact h ⟨h1, .inr ⟨h3, by omega⟩⟩)]
      · rw [if_neg h3, if_neg (fun hx => h ⟨h1, .inl hx⟩)]
    · rw [if_neg h1]

/-- What a peer's handover does. -/
theorem peerHandover_is (n : Nat) (s : State) : PeerHandedOver n s (peerHandover n s) :=
  ⟨memberLevel s n, _, _, rfl, memberRise_is .., refreshStrict_is _, risingEvaluation_is _⟩

/-! ## Ending of exchanges, restart, admission -/

theorem placeCancel_eq (n : Nat) (id : PackId) (o : Nat) (r : CancelReason) (s : State) :
    placeCancel n id o r s = placeHandoff (cancelTo s n id o r) s := rfl

/-- The work on one record of an ended exchange. -/
def endOne (n : Nat) (s : State) (r : PackRecord) : State :=
  placeCancel n r.id (r.offerNumber.getD 0) .peerRestart (if r.state = .inTransit then raise .adrift s else s)

theorem endOne_is (n : Nat) (s : State) (r : PackRecord) :
    (endOne n s r).link = (placeHandoff (cancelTo s n r.id (r.offerNumber.getD 0) .peerRestart) s).link
      ∧ (endOne n s r).port = (if r.state = .inTransit then raise .adrift s else s).port
      ∧ OnlyChanges [.link, .port] s (endOne n s r) := by
  unfold endOne
  rw [placeCancel_eq]
  split
  · rw [cancelTo_cfg (s := s) (t := raise .adrift s) (by simp)]
    refine ⟨placeHandoff_link _ (by simp), by simp, ?_⟩
    intro b hb; cases b <;> simp at hb <;> simp [sameBlock]
  · refine ⟨rfl, by simp, ?_⟩
    intro b hb; cases b <;> simp at hb <;> simp [sameBlock]

/-- The raises of a fold depend on the port alone. -/
theorem raises_port {α : Type} (k : EventKind) (l : List α) :
    ∀ {s t : State}, t.port = s.port → (l.foldl (fun s _ => raise k s) t).port = (l.foldl (fun s _ => raise k s) s).port := by
  induction l with
  | nil => intro s t h; exact h
  | cons a l ih => intro s t h; exact ih (raise_port_congr k h)

/-- The work on the records of the ended exchanges: the raises and the cancels apart. -/
theorem endRecords_is (n : Nat) (l : List PackRecord) : ∀ s : State,
    (l.foldl (endOne n) s).link
        = (placedAll (l.map (fun r => cancelTo s n r.id (r.offerNumber.getD 0) .peerRestart)) s).link
      ∧ (l.foldl (endOne n) s).port
        = ((l.filter (fun r => decide (r.state = .inTransit))).foldl (fun s _ => raise .adrift s) s).port
      ∧ OnlyChanges [.link, .port] s (l.foldl (endOne n) s) := by
  induction l with
  | nil => intro s; exact ⟨rfl, rfl, fun b _ => by cases b <;> rfl⟩
  | cons a l ih =>
    intro s
    obtain ⟨h1, h2, h3⟩ := endOne_is n s a
    obtain ⟨i1, i2, i3⟩ := ih (endOne n s a)
    have hc : (endOne n s a).cfg = s.cfg := h3 .cfg (by decide)
    refine ⟨?_, ?_, ?_⟩
    · rw [List.foldl_cons, i1, cancelTo_cfg hc, List.map_cons, placedAll_cons]
      exact placedAll_link _ h1
    · rw [List.foldl_cons, i2, List.filter_cons]
      by_cases ha : a.state = .inTransit
      · simp only [ha, decide_true, if_true, List.foldl_cons] at h2 ⊢
        exact raises_port _ _ h2
      · simp only [ha, decide_false, if_false] at h2 ⊢
        exact raises_port _ _ h2
    · intro b hb
      have x := h3 b hb
      have y := i3 b hb
      cases b <;> simp at hb <;> exact y.trans x

theorem exchangesWith_eq (n : Nat) (r : PackRecord) :
    r.exchangesWith n = decide (exchanging r ∧ r.destination = some n) := rfl

/-- What ending every exchange with a station does. -/
theorem endExchanges_is (n : Nat) (s : State) : ExchangesEnded n s (endExchanges n s) := by
  have e : endExchanges n s =
      (let A := (s.store.reservations.filter (fun v => decide (v.station = n))).map
        (fun v => cancelTo s n v.packId v.offerNumber .peerRestart)
      let u := putReservations (s.store.reservations.filter (fun v => decide (v.station ≠ n))) s
      let w := placedAll A u
      let x := putRecords (s.store.records.map (fun r =>
        if r.exchangesWith n then r.into (if r.state = .inTransit then .adrift else .ready) else r)) w
      (s.store.records.filter (fun r => r.exchangesWith n)).foldl (endOne n) x) := by
    unfold endExchanges
    simp only [placeCancels, cancelTo_putReservations, placedAll_frame]
    rfl
  rw [e]
  extract_lets A u w x
  obtain ⟨h1, h2, h3⟩ := endRecords_is n (s.store.records.filter (fun r => r.exchangesWith n)) x
  have hx : x.cfg = s.cfg := by simp [x, w, u]
  have hl : x.link.state = s.link.state := by simp [x, w, u]
  generalize (s.store.records.filter (fun r => r.exchangesWith n)).foldl (endOne n) x = t at h1 h2 h3 ⊢
  have hk : t.link = (placedAll (restartCancels n s) s).link := by
    rw [h1, cancelTo_cfg hx, restartCancels, placedAll_append]
    exact placedAll_link _ (show x.link = _ from (by simp only [x, putRecords, refreshStore]; exact placedAll_link A rfl))
  have hxs : StoreIs { s.store with
      records := s.store.records.map (fun r =>
        if r.destination = some n then
          (if r.state = .offered then r.stopped .ready else if r.state = .inTransit then r.stopped .adrift else r)
        else r)
      reservations := s.store.reservations.filter (fun v => decide (v.station ≠ n)) } x := by
    have hm : (fun r : PackRecord =>
        if r.exchangesWith n = true then r.into (if r.state = .inTransit then .adrift else .ready) else r)
        = fun r => if r.destination = some n then
          (if r.state = .offered then r.stopped .ready else if r.state = .inTransit then r.stopped .adrift else r)
        else r := by
      funext r
      by_cases hd : r.destination = some n <;> cases hs : r.state <;>
        simp [exchangesWith_eq, hd, hs, PackRecord.into, PackRecord.stopped]
    simp only [x, hm, w, u]
    unfold StoreIs
    simp [putRecords, refreshStore, putReservations, permitHolds, effectiveLimit]
  refine ⟨?_, hk, ?_, ?_⟩
  · exact storeIs_congr hxs (h3 .store (by decide)) (congrArg Zone.level (h3 .zone (by decide)))
      (by rw [hk, hl]; simp) (congrArg Atmosphere.state (h3 .atm (by decide))) (h3 .cfg (by decide))
  · rw [h2]
    have hf : (s.store.records.filter (fun r => r.exchangesWith n)).filter (fun r => decide (r.state = .inTransit))
        = s.store.records.filter (fun r => decide (r.state = .inTransit ∧ r.destination = some n)) := by
      rw [List.filter_filter]
      refine List.filter_congr (fun r _ => ?_)
      cases hs : r.state <;> simp [exchangesWith_eq, hs]
    rw [hf]
    exact raises_port _ _ (by simp [x, w, u])
  · intro b hb
    have := h3 b
    cases b <;> simp at hb <;> simp_all [sameBlock, x, w, u]

/-- What a peer restart does. -/
theorem peerRestart_is (n epoch : Nat) (s : State) : PeerRestarted n epoch s (peerRestart n epoch s) :=
  ⟨_, endExchanges_is .., peerHandover_is ..⟩

/-- What the examination of one entry does. -/
theorem examineListed_is (n : Nat) (s : State) : ListExamined n s (examineListed n s) := by
  have hl : (s.peer n).recordedId.any (onAllowList s) = false ↔
      ∀ id ∈ s.cfg.allowList, (s.peer n).recordedId ≠ some id := by
    cases h : (s.peer n).recordedId with
    | none => simp
    | some id =>
      simp only [Option.any_some, onAllowList, List.contains_eq_mem, decide_eq_false_iff_not, ne_eq, Option.some.injEq]
      exact ⟨fun h x hx he => h (he ▸ hx), fun h hx => h id hx rfl⟩
  refine ⟨?_, ?_⟩
  · intro ha h
    unfold examineListed
    rw [if_pos ⟨ha, hl.2 h⟩]
    exact ⟨_, endExchanges_is .., peerHandover_is ..⟩
  · intro h
    unfold examineListed
    rw [if_neg (by rw [hl]; exact h)]

/-- What the examination of several entries does. -/
theorem examineListed_all (ns : List Nat) : ∀ s : State, AllExamined ns s (ns.foldl (fun s n => examineListed n s) s) := by
  induction ns with
  | nil => intro s; rfl
  | cons n ns ih => intro s; exact ⟨_, examineListed_is n s, ih _⟩

/-- The judgement of a JOIN meets R22. -/
theorem judgeJoin_is (f : JoinFrame) (s : State) : Judgement f s (judgeJoin f s) := by
  unfold judgeJoin
  refine ⟨?_, ?_, ?_, ?_, ?_⟩
  · intro h; rw [if_pos h]
  · rintro h ⟨id, h1, h2⟩; simp [h, h1, h2]
  all_goals
    intro h h1 h2
    have hi : (s.peer f.station).recordedId.any (fun id => decide (id ≠ f.uniqueId)) = false := by
      cases hr : (s.peer f.station).recordedId with
      | none => rfl
      | some id => simp [h1 id hr]
    rw [if_neg (by simp [h]), if_neg (by rw [hi]; decide)]
  · constructor <;> intro h3 <;> rcases h2 with h2 | ⟨h2, h4⟩ <;> simp [onAllowList, *]
  · intro h3; simp [h2, h3]
  · simp [h2]

/-- What taking a JOIN for an entry not ADMITTED does. -/
theorem takeNewJoin_is (f : JoinFrame) (s : State) : JoinTaken f s (takeNewJoin f s) := by
  refine ⟨judgeJoin f s, judgeJoin_is f s, ?_⟩
  unfold takeNewJoin
  cases judgeJoin f s <;> exact peerHandover_is ..

/-! ## STATE and offers -/

/-- In a list with rising stations the entry of a station is the one that a search finds. -/
theorem find_station {l : List UnheardEntry} (h : increasing l = true) {x : UnheardEntry} (hx : x ∈ l) :
    l.find? (fun y => decide (y.station = x.station)) = some x := by
  have low : ∀ (l : List UnheardEntry) (a : UnheardEntry), increasing (a :: l) = true → ∀ y ∈ l, a.station < y.station := by
    intro l
    induction l with
    | nil => intro a _ y hy; cases hy
    | cons b l ih =>
      intro a ha y hy
      simp only [increasing, Bool.and_eq_true, decide_eq_true_eq] at ha
      rcases List.mem_cons.1 hy with rfl | hy
      · exact ha.1
      · exact Nat.lt_trans ha.1 (ih b ha.2 y hy)
  have tail : ∀ (a : UnheardEntry) (l : List UnheardEntry), increasing (a :: l) = true → increasing l = true := by
    intro a l ha
    cases l with
    | nil => rfl
    | cons b l => simp only [increasing, Bool.and_eq_true] at ha; exact ha.2
  induction l with
  | nil => cases hx
  | cons a l ih =>
    rcases List.mem_cons.1 hx with rfl | hx
    · simp
    · rw [List.find?_cons, decide_eq_false (Nat.ne_of_lt (low l a h x hx))]
      exact ih (tail a l h) hx

/-- What the examination of an unheard list does. -/
theorem examineUnheard_is {f : StateFrame} (h : increasing f.unheard = true) (s : State) :
    UnheardExamined f s (examineUnheard f s) := by
  have hf : ∀ x ∈ f.unheard, x.station = s.cfg.station →
      f.unheard.find? (fun y => decide (y.station = s.cfg.station)) = some x := by
    intro x hx hs; rw [← hs]; exact find_station h hx
  unfold examineUnheard
  refine ⟨?_, ?_, ?_, ?_⟩
  · intro hn
    have : f.unheard.find? (fun x => decide (x.station = s.cfg.station)) = none := by
      rw [List.find?_eq_none]; intro x hx; simpa using hn x hx
    simp [this]
  · intro hx
    rw [hf _ hx rfl]
    simp only [placeJoin_is]
    rfl
  · intro x hx hs hr
    rw [hf x hx hs]
    rcases hr with hr | hr <;> simp only [hr] <;> cases s.peers.notHeardLimit <;> rfl
  · intro hx
    rw [hf _ hx rfl]
    simp only
    cases s.peers.clashListedLimit <;> rfl

/-- What the examination for an offer does. -/
theorem examineOffer_is (s : State) : OfferExamined s (examineOffer (channelOut s 16) s) := by
  have ha : ∀ n, available s n = true ↔
      (s.peer n).admission = .admitted ∧ (s.peer n).step = .inStep ∧ 1 ≤ (s.peer n).effectiveFree := by
    intro n; simp [available, PeerEntry.followed, and_assoc]
  have hd : ∀ r : PackRecord, destinationOf (channelOut s 16) s r =
      (if marksAny r.data.marks = true then s.cfg.quarantineDestination
       else if channelOut s 16 = true then s.cfg.alternateDestination
       else s.cfg.defaultDestination) := fun r => rfl
  have hx : s.store.records.any (fun r => decide (r.state = .offered ∨ r.state = .inTransit)) = false ↔
      ∀ x ∈ s.store.records, ¬exchanging x := by simp [exchanging]
  refine ⟨?_, ?_⟩
  · intro r n h
    unfold examineOffer
    rw [h.oldest]
    simp only
    rw [if_neg (by rw [hx.2 h.alone]; simp [h.level, h.link, h.backOff]), hd, ← h.destination]
    simp only [(ha n).2 h.available, if_true]
    refine ⟨?_, ?_, ?_⟩
    · unfold firstSend StoreIs
      simp only [placeOffer, placeHandoff_frame]
      simp [updateRecord, putRecords, refreshStore, recordsWith, permitHolds, effectiveLimit]
    · unfold firstSend
      simp only [placeOffer]
      refine placeHandoff_link _ ?_
      simp
    · intro b hb; unfold firstSend; cases b <;> simp at hb <;> simp [sameBlock, placeOffer]
  · intro h
    unfold examineOffer
    cases hr : s.store.records.find? (fun r => decide (r.state = .ready)) with
    | none => rfl
    | some r =>
      simp only
      by_cases hc : s.store.records.any (fun r => decide (r.state = .offered ∨ r.state = .inTransit)) = true
        ∨ s.zone.level ≠ .normal ∨ s.link.state = .clashed ∨ r.backOff.isSome = true
      · rw [if_pos hc]
      · rw [if_neg hc]
        cases hdd : destinationOf (channelOut s 16) s r with
        | none => rfl
        | some n =>
          simp only
          by_cases hav : available s n = true
          · exfalso
            push Not at hc
            refine h r n ⟨hr, hx.1 (by simpa using hc.1), hc.2.1, ?_, ?_, by rw [← hd, hdd], (ha n).1 hav⟩
            · cases hl : s.link.state <;> simp_all
            · simpa using hc.2.2.2
          · rw [if_neg hav]

/-- What entry into CLASHED does. -/
theorem enterClashed_is (cause : ClashCause) {s : State} (h : s.link.state = .active) :
    ClashEntered cause s (enterClashed cause s) := by
  unfold enterClashed
  rw [if_neg (by simp [h])]
  simp only [orderUnload_is, dropFeed_is]
  refine ⟨?_, ?_, ?_, ?_, ?_, ?_, ?_⟩
  · simp [peerChange]
  · refine storeIs_congr (s := refreshStore { s with link := { s.link with
        state := .clashed, clashCause := cause, alarmSlot := none, stateSlot := none, joinSlot := none, queue := []
        ahead := 0, attempt := none } }) (refreshStore_is _) ?_ ?_ ?_ ?_ ?_ <;> simp [peerChange, feedDropped_state]
    rfl
  · simp [peerChange]; rfl
  · simp [peerChange]
  · simp [peerChange]
  · simp [peerChange, raise]
  · intro b hb; cases b <;> simp at hb <;> simp [sameBlock, peerChange]

/-! ## The Atmosphere Unit -/

theorem tallyWatch_is (s : State) :
    tallyWatch s = s.withTally { s.tally with openLot := s.tally.openLot.map (fun lot =>
      { lot with watchEpisodes := min (lot.watchEpisodes + 1) 65535 }) } := by
  unfold tallyWatch
  cases h : s.tally.openLot with
  | none => simp only [Option.map_none]; rw [← h]; rfl
  | some lot => rfl

/-- What a change of the atmosphere state does. -/
theorem changeAtm_is (st : AtmState) (c : AtmNoteCause) (s : State) : AtmChanged st c s (changeAtm st c s) := by
  unfold changeAtm
  simp only [dropFeed_is, closeLot_is, tallyWatch_is]
  cases st <;> exact ⟨rfl, rfl, rfl, rfl, fun b hb => by cases b <;> simp at hb <;> simp [sameBlock, noteAtm]⟩

/-- What entry into TRIP does. -/
theorem enterTrip_is (c : TripCause) (s : State) : Tripped c s (enterTrip c s) := changeAtm_is ..

/-- What the supply tests do. -/
theorem takeSupply_is (s : State) : SupplyTaken s (takeSupply s) := by
  unfold takeSupply
  refine ⟨?_, ?_, ?_, ?_⟩
  · intro h1 h2; simp only [h1, h2]; cases s.atm.bothLow <;> rfl
  · intro h h1 h2; simp only [h1, h2]; simp [h, changeSupply, State.withAtm]
  · intro h h1 h2; simp only [h1]; cases h3 : channelOut s 15 <;> simp_all [changeSupply, State.withAtm]
  · intro h1 h2 h3
    cases hs : s.atm.supply <;> cases hp : channelOut s 14 <;> cases hr : channelOut s 15 <;> cases hv : s.cfg.revert <;>
      simp_all [State.withAtm]

/-- What the tests of PURGING do. -/
theorem testPurging_is (s : State) : PurgeTested s (testPurging s) := by
  unfold testPurging bothSuppliesLow
  refine ⟨?_, ?_, ?_⟩
  · intro h h1 h2; simp only [h, h1, h2]; exact enterTrip_is ..
  · intro h h1 h2 h3
    have hb : (channelOut s 14 && channelOut s 15) = false := by rcases h1 with h1 | h1 <;> simp [h1]
    have hh : (s.atm.healthyA || s.atm.healthyB) = true := by rcases h3 with h3 | h3 <;> simp [h3]
    rw [if_pos h, hb, h2, hh]
    exact changeAtm_is ..
  · rintro (h | ⟨h1, h2⟩)
    · rw [if_neg h]
    · have hb : (channelOut s 14 && channelOut s 15) = false := by rcases h1 with h1 | h1 <;> simp [h1]
      have hh : (channelOut s 10 && (s.atm.healthyA || s.atm.healthyB)) = false := by
        rcases h2 with h2 | ⟨h2, h3⟩ <;> simp [*]
      rw [hb, hh]; simp

theorem tripsFor_iff (s : State) (c : TripCause) : TripsFor s c ↔ tripCondition s = some c := by
  unfold TripsFor tripCondition bothSuppliesLow
  cases channelOut s 12 <;> cases s.atm.healthyA <;> cases s.atm.healthyB <;> cases channelOut s 14 <;>
    cases channelOut s 15 <;> simp [eq_comm]

theorem watchesFor_iff (s : State) (c : AtmNoteCause) : WatchesFor s c ↔ watchCondition s = some c := by
  unfold WatchesFor watchCondition
  cases channelOut s 11 <;> cases s.atm.healthyA <;> cases s.atm.healthyB <;> cases channelOut s 13 <;> simp [eq_comm]

/-- What the tests of INERT and WATCH do. -/
theorem testInert_is (s : State) : InertTested s (testInert s) := by
  have ht : (∀ c, ¬TripsFor s c) ↔ tripCondition s = none := by
    simp only [tripsFor_iff]; cases tripCondition s <;> simp
  have hw : (∀ c, ¬WatchesFor s c) ↔ watchCondition s = none := by
    simp only [watchesFor_iff]; cases watchCondition s <;> simp
  unfold testInert
  refine ⟨?_, ?_, ?_, ?_⟩
  · intro h c hc
    rw [if_pos h, (tripsFor_iff s c).1 hc]
    exact enterTrip_is ..
  · intro h h1 c hc
    rw [if_pos (.inl h), ht.1 h1]
    simp only [(watchesFor_iff s c).1 hc, h, if_true]
    exact changeAtm_is ..
  · intro h h1 h2
    rw [if_pos (.inr h), ht.1 h1]
    simp only [hw.1 h2, h, if_true]
    exact changeAtm_is ..
  · rintro (⟨h1, h2⟩ | ⟨h1, ⟨h, h2⟩ | ⟨h, c, h2⟩⟩)
    · rw [if_neg (by simp [h1, h2])]
    · rw [if_pos (.inl h), ht.1 h1]; simp only [hw.1 h2, h]; simp
    · rw [if_pos (.inr h), ht.1 h1]; simp only [(watchesFor_iff s c).1 h2, h]; simp

/-- What the Atmosphere Unit does at a handover. -/
theorem atmosphereHandover_is (s : State) : AtmosphereHandedOver s (atmosphereHandover s) := by
  unfold atmosphereHandover
  refine ⟨?_, ?_, ?_⟩
  · intro h; rw [if_neg h]
  · intro h h7
    rw [if_pos h, h7]
    refine ⟨_, takeSupply_is _, fun ho => if_pos ho, fun ho => ?_⟩
    rw [if_neg ho]
    exact changeAtm_is ..
  · intro h h7
    rw [if_pos h, h7]
    exact ⟨_, _, takeSupply_is s, testPurging_is _, testInert_is _⟩

/-! ## The Zone Unit at a handover -/

theorem countedDown_is (s : State) :
    (if s.zone.level = .countdown then takeCountdown (refreshStrict s) else refreshStrict s)
      = refreshStrict { s with zone := countedDown s } := by
  unfold countedDown takeCountdown
  have hc : ∀ t : State, t.bank = s.bank → channelOut t 8 = channelOut s 8 := fun t h => by simp [channelOut, h]
  have ho : channelOut (refreshStrict s) 8 = channelOut s 8 := hc _ rfl
  have he : ∀ k : Nat, decide (k - 1 = 0) = decide (k ≤ 1) := fun k => by rw [decide_eq_decide]; omega
  by_cases hl : s.zone.level = .countdown
  · rw [if_pos hl, ho]
    cases h8 : channelOut s 8
    · rw [if_neg (by simp), if_pos ⟨hl, rfl⟩, ← he]; rfl
    · rw [if_pos rfl, if_neg (by simp)]
  · rw [if_neg hl, if_neg (fun h => hl h.1)]

/-- What the Zone Unit does at a filter handover. -/
theorem zoneHandover_is (s : State) : ZoneHandedOver s (zoneHandover s) := by
  unfold zoneHandover
  simp only [countedDown_is]
  refine ⟨_, _, refreshStrict_is _, risingEvaluation_is _, ?_, ?_⟩
  · intro h hs
    rw [if_pos ⟨h, (setDetectors_isEmpty _).2 hs⟩]
    exact changeLevel_is ..
  · intro h
    rw [if_neg]
    rintro ⟨h1, h2⟩
    rcases h with h | ⟨a, h⟩
    · exact h h1
    · exact (setDetectors_isEmpty _).1 h2 a h

/-- What telling the Zone Unit of the records does. -/
theorem zoneTakesStore_is (s : State) : RecordsTold s (zoneTakesStore s) := strictChanged_is _

/-! ## The inputs and the channels at a sample timer expiry -/

theorem tallyPeak_is (s : State) :
    tallyPeak s = s.withTally { s.tally with openLot := s.tally.openLot.map (fun lot =>
      { lot with peak := match s.atm.effective, lot.peak with
          | some o2, some p => some (max o2 p)
          | some o2, none => some o2
          | none, p => p }) } := by
  unfold tallyPeak
  cases h : s.tally.openLot with
  | none => simp only [Option.map_none]; rw [← h]; rfl
  | some lot =>
    cases he : s.atm.effective with
    | none => simp only [Option.map_some]; rw [← h]; rfl
    | some o2 =>
      cases hp : lot.peak with
      | none => simp [hp]
      | some p =>
        by_cases hlt : p < o2
        · simp [hp, hlt, Nat.max_eq_left (Nat.le_of_lt hlt)]
        · simp only [Option.map_some, hp, Option.all_some, hlt, decide_false, Bool.false_eq_true, if_false,
            Nat.max_eq_right (Nat.le_of_not_lt hlt)]
          rw [← hp, ← h]; rfl

theorem o2Healthy_iff (a : Option Nat) : o2Healthy a = true ↔ ∃ v, a = some v ∧ v ≤ 2500 := by
  cases a <;> simp [o2Healthy]

/-- What the inputs of a sample timer expiry are. -/
theorem inputs_is (contacts : Contacts) (s : State) :
    InputsTaken contacts s
      (judgeSensors ((onEngine Engine.tick s).withBank { takeSampleSet s.bank with contacts := contacts })) := by
  refine ⟨?_, ?_, ?_, ?_, ?_, ?_, ?_⟩
  · simp only [judgeSensors_frame, State.withBank_engine]
    cases h : s.engine.state <;> simp [onEngine, Engine.tick, stepping, h]
  · intro x hx; simp [takeSampleSet, hx]
  · intro hx
    have hm : 4 ≤ satSucc 255 s.bank.missing ↔ 3 ≤ s.bank.missing := by simp only [satSucc]; omega
    simp only [judgeSensors_frame, State.withBank_bank, takeSampleSet, hx, hm]; rfl
  · intro h; simp [judgeSensors, h]
  · intro h a b ha hb
    have hr : ((onEngine Engine.tick s).withBank { takeSampleSet s.bank with contacts := contacts }).cfg.role = .chamber := by
      simpa using h
    simp only [judgeSensors_frame, State.withBank_bank] at ha hb
    have : (judgeSensors ((onEngine Engine.tick s).withBank { takeSampleSet s.bank with contacts := contacts })).atm
        = { s.atm with
            healthyA := o2Healthy a
            healthyB := o2Healthy b
            readingA := if a.isSome then a else s.atm.readingA
            readingB := if b.isSome then b else s.atm.readingB
            effective := effectiveO2 a b } := by
      subst ha hb; unfold judgeSensors; rw [if_pos hr, tallyPeak_is]; rfl
    rw [this]
    refine ⟨rfl, o2Healthy_iff a, o2Healthy_iff b, ?_, ?_, ?_, ?_⟩ <;>
      simp only [effectiveO2] <;> intro h1 h2 <;> simp only [h1, h2]
    intro v w hv hw; simp [hv, hw]
  · intro h
    have hr : ((onEngine Engine.tick s).withBank { takeSampleSet s.bank with contacts := contacts }).cfg.role = .chamber := by
      simpa using h
    unfold judgeSensors; rw [if_pos hr, tallyPeak_is]; rfl
  · intro b hb; cases b <;> simp at hb <;> simp [sameBlock]

/-- The source of a channel, as the model forms it. -/
theorem sourceIs (s : State) {n : Nat} (h1 : 1 ≤ n) (h2 : n ≤ 16) : SourceIs s n (channelSource s n) := by
  have ho : ∀ a b : Nat, s.atm.healthyA = true → s.atm.healthyB = true →
      s.bank.current.bind (fun x => x.o2A) = some a → s.bank.current.bind (fun x => x.o2B) = some b →
      o2Disagree s = some (decide (s.cfg.disagreeLimit < max a b - min a b)) := by
    intro a b ha hb h h'; simp [o2Disagree, measured, *]
  have hu : s.atm.healthyA = false ∨ s.atm.healthyB = false → o2Disagree s = none := by
    rintro (h | h) <;> simp [o2Disagree, h]
  have han : ∀ k ∈ [1, 2, 3, 4], analogReading s k
      = s.bank.current.bind (fun x => [x.an1, x.an2, x.an3, x.an4].getD (k - 1) none) := by
    intro k hk; simp only [List.mem_cons, List.not_mem_nil, or_false] at hk
    rcases hk with rfl | rfl | rfl | rfl <;> rfl
  have hdg : ∀ k ∈ [1, 2, 3, 4], some (digital s.bank.contacts k) = [s.bank.contacts.digital1, s.bank.contacts.digital2,
      s.bank.contacts.digital3, s.bank.contacts.digital4][k - 1]? := by
    intro k hk; simp only [List.mem_cons, List.not_mem_nil, or_false] at hk
    rcases hk with rfl | rfl | rfl | rfl <;> rfl
  have hd : ∀ k ∈ [1, 2, 3, 4], n = k → channelSource s n = detectorSource s k := by
    intro k hk e; simp only [List.mem_cons, List.not_mem_nil, or_false] at hk
    rcases hk with rfl | rfl | rfl | rfl <;> subst e <;> simp [channelSource, channelUsed]
  refine ⟨?_, ?_, ?_, ?_, ?_, ?_, ?_, ?_, ?_, ?_, ?_, ?_, ?_, ?_, ?_, ?_, ?_⟩
  · intro h; simp [channelSource, h]
  · intro k hk e hh
    rw [hd k hk e]; unfold detectorSource
    rcases hh with hh | hh <;> rw [hh, ← han k hk]
  · intro k hk e hh
    rw [hd k hk e]; unfold detectorSource
    rcases hh with hh | hh <;> rw [hh, ← hdg k hk]
  · intro k hk e hh
    rw [hd k hk e]; unfold detectorSource; rw [hh]
  all_goals first
    | (intro e h; subst e; simp [channelSource, channelUsed, h, measured]; done)
    | (intro e; subst e; simp [channelSource, channelUsed]; done)
    | skip
  · intro e h a b ha hb h' h''; subst e; simp [channelSource, channelUsed, h, ho a b ha hb h' h'']
  · intro e h hh; subst e; simp [channelSource, channelUsed, h, hu hh]
  · intro e h x hx; subst e; subst hx
    simp only [channelSource, channelUsed]
    cases hs : s.cfg.divertSource <;> simp [divertTruth, digital, defaultEntry, PeerEntry.followed, *] <;> first | rfl | exact Bool.decide_and ..

/-- What one evaluation of a channel does. -/
theorem evaluate_is (c : ChannelSettings) (source : Option Bool) (x : Channel) :
    ChannelEvaluated c source x (evaluate c source x) := by
  generalize hy : evaluate c source x = y
  have hm : y.mark = nextMark x y.unforced x.output y.output := by rw [← hy]; rfl
  have hf : y.force = (x.force && !(y.output && !x.output)) := by rw [← hy]; rfl
  have hg : y.flag = (x.flag || flagged x y.unforced x.output y.output) := by rw [← hy]; rfl
  refine ⟨by rw [← hy]; cases source <;> rfl, by rw [← hy]; rfl, by rw [← hy]; rfl, ?_, ?_, ?_⟩ <;>
  · simp only [hm, hf, hg, nextMark, flagged]
    generalize y.output = b
    generalize y.unforced = u
    generalize x.output = a
    cases a <;> cases b <;> cases x.force <;> cases x.mark <;> cases x.flag <;> cases u <;> decide

theorem raise_reChange {s t : State} (k : EventKind) {r : Sixteen Bool} (h : t.port = { s.port with reChange := r }) :
    (raise k t).port = { (raise k s).port with reChange := r } := by simp [raise_port, h]

theorem raises_reChange {α : Type} (k : EventKind) (l : List α) : ∀ {s t : State} {r : Sixteen Bool},
    t.port = { s.port with reChange := r } →
    (l.foldl (fun s _ => raise k s) t).port = { (l.foldl (fun s _ => raise k s) s).port with reChange := r } := by
  induction l with
  | nil => intro s t r h; exact h
  | cons a l ih => intro s t r h; exact ih (raise_reChange k h)

/-- The notices of several channels. -/
theorem notices_is (l : List Nat) : ∀ s : State,
    (l.foldl (fun s n => noticeFlag n s) s).port
      = { ((l.filter (fun n => !at1 false s.port.channelMasks n)).foldl (fun u _ => raise .filterChange u) s).port with
          reChange := l.foldl (fun v n => if returnedFlag s.port n then set1 v n true else v) s.port.reChange } := by
  induction l with
  | nil => intro s; rfl
  | cons a l ih =>
    intro s
    let r := if returnedFlag s.port a then set1 s.port.reChange a true else s.port.reChange
    let u := if at1 false s.port.channelMasks a then s else raise .filterChange s
    have ha : (noticeFlag a s).port = { u.port with reChange := r } := by
      simp only [noticeFlag, u, r]
      split <;> split <;> simp_all [raise_port]
    have hm : u.port.channelMasks = s.port.channelMasks := by simp only [u]; split <;> rfl
    have hr : returnedFlag (noticeFlag a s).port = returnedFlag s.port := by
      have hq : u.port.pendingReply = s.port.pendingReply := by simp only [u]; split <;> rfl
      funext n; rw [ha]; simp only [returnedFlag, hq]
    rw [List.foldl_cons, ih, hr, ha]
    simp only [hm]
    rw [raises_reChange .filterChange _ ha]
    simp only [List.foldl_cons, List.filter_cons, u, r]
    cases at1 false s.port.channelMasks a <;> simp

theorem markers_at (p : Port) (l : List Nat) : ∀ (v : Sixteen Bool) (n : Nat), 1 ≤ n → n ≤ 16 →
    at1 false (l.foldl (fun v n => if returnedFlag p n then set1 v n true else v) v) n
      = (at1 false v n || (decide (n ∈ l) && returnedFlag p n)) := by
  induction l with
  | nil => intro v n _ _; simp
  | cons a l ih =>
    intro v n h1 h2
    rw [List.foldl_cons, ih _ n h1 h2]
    by_cases he : n = a
    · subst he
      cases hr : returnedFlag p n <;> simp [at1_set1, h1, h2]
    · cases hr : returnedFlag p a <;> simp [at1_set1, he]

theorem mem_sixteen (n : Nat) : n ∈ sixteenNumbers ↔ 1 ≤ n ∧ n ≤ 16 := by
  simp only [sixteenNumbers, List.mem_map, List.mem_range]
  constructor
  · rintro ⟨k, hk, rfl⟩; omega
  · intro h; exact ⟨n - 1, by omega, by omega⟩

theorem at1_ofFn {α : Type} {k : Nat} (d : α) (f : Fin k → α) {n : Nat} (h1 : 1 ≤ n) (h2 : n ≤ k) :
    at1 d (Vector.ofFn f) n = f ⟨n - 1, by omega⟩ := by
  unfold at1
  rw [if_neg (by omega)]
  simp [show n - 1 < k by omega]

/-- What the evaluation of the 16 channels does. -/
theorem evaluateAll_is (s : State) : ChannelsEvaluated s (evaluateAll s) := by
  let b : FilterBank := { s.bank with
    channels := Vector.ofFn (fun k : Fin 16 =>
      evaluate (channelSettings s (k.val + 1)) (channelSource s (k.val + 1)) (channelAt s (k.val + 1)))
    detectorFault := Vector.ofFn (fun k : Fin 4 => detectorFaulted s (k.val + 1))
    healthy := [1, 2, 3, 4].countP (detectorHealthy s) }
  have hfold : ∀ (l : List Nat) (u : State), (l.foldl (fun s n => noticeFlag n s) u).bank = u.bank := by
    intro l; induction l with
    | nil => intro u; rfl
    | cons a l ih => intro u; rw [List.foldl_cons, ih]; simp
  have hb : (evaluateAll s).bank = b := by unfold evaluateAll; rw [hfold]; rfl
  have hc : ∀ n, 1 ≤ n → n ≤ 16 →
      channelAt (evaluateAll s) n = evaluate (channelSettings s n) (channelSource s n) (channelAt s n) := by
    intro n h1 h2
    unfold channelAt; rw [hb]
    simp only [b]
    rw [at1_ofFn _ _ h1 h2]
    simp only [show n - 1 + 1 = n by omega]; rfl
  have hch : ∀ n, 1 ≤ n → n ≤ 16 →
      ChannelChanged (channelAt s n) (channelAt (evaluateAll s) n) = channelFlagged s n := by
    intro n h1 h2; rw [hc n h1 h2]; rfl
  have hfl : sixteenNumbers.filter (fun n =>
      ChannelChanged (channelAt s n) (channelAt (evaluateAll s) n) && !at1 false s.port.channelMasks n)
      = (sixteenNumbers.filter (channelFlagged s)).filter (fun n => !at1 false s.port.channelMasks n) := by
    rw [List.filter_filter]
    refine List.filter_congr (fun n hn => ?_)
    obtain ⟨h1, h2⟩ := (mem_sixteen n).1 hn
    rw [hch n h1 h2]; exact Bool.and_comm ..
  have hp := notices_is (sixteenNumbers.filter (channelFlagged s)) (s.withBank b)
  have hd : ∀ n, 1 ≤ n → n ≤ 4 → (detectorFaulted s n = true ↔
      (detectorKind s n = .heat ∨ detectorKind s n = .gas)
        ∧ s.bank.current.bind (fun x => [x.an1, x.an2, x.an3, x.an4].getD (n - 1) none) = none) := by
    intro n h1 h2
    have hr : analogReading s n = s.bank.current.bind (fun x => [x.an1, x.an2, x.an3, x.an4].getD (n - 1) none) := by
      rcases (by omega : n = 1 ∨ n = 2 ∨ n = 3 ∨ n = 4) with rfl | rfl | rfl | rfl <;> rfl
    rw [← hr]
    cases hk : detectorKind s n <;> simp [detectorFaulted, analogKind, hk]
  refine ⟨?_, ?_, ?_, ?_, ?_, ?_, ?_⟩
  · intro n h1 h2
    refine ⟨_, sourceIs s h1 h2, ?_⟩
    rw [hc n h1 h2]; exact evaluate_is ..
  · intro n h1 h2
    rw [hb]; simp only [b]
    rw [at1_ofFn _ _ h1 h2]
    simp only [show n - 1 + 1 = n by omega]
    exact hd n h1 h2
  · rw [hb]; rfl
  · rw [hb]
  · rw [hfl]
    refine Eq.trans hp ?_
    have hq : (evaluateAll s).port.reChange = _ := congrArg Port.reChange hp
    rw [hq]
    have hk : ∀ l : List Nat, (l.foldl (fun u _ => raise .filterChange u) (s.withBank b)).port
        = (l.foldl (fun u _ => raise .filterChange u) s).port := fun l => raises_port .filterChange l rfl
    simp only [State.withBank_port, hk]
  · intro n h1 h2
    have hq : (evaluateAll s).port.reChange = _ := congrArg Port.reChange hp
    rw [hq, hch n h1 h2]
    refine (markers_at s.port _ s.port.reChange n h1 h2).trans ?_
    simp [(mem_sixteen n).2 ⟨h1, h2⟩]
  · intro b hb; cases b <;> simp at hb <;> simp [sameBlock]

/-! ## The Discharge Engine at a sample timer expiry -/

theorem markHot_is {s : State} {id : PackId} (h : s.engine.bound = some id) (p : UnloadPurpose) (u : State)
    (hu : u = s.withEngine (s.engine.ordered p)) :
    ∃ v, RecordsTold v (markHot u) ∧ v.engine = s.engine.ordered p
      ∧ StoreIs { s.store with
          records := recordsWith id (·.withData (fun d => { d with marks := { d.marks with hot := true } })) s } v
      ∧ OnlyChanges [.engine, .store] s v := by
  subst hu
  have hb : (s.withEngine (s.engine.ordered p)).engine.bound = some id := by
    rw [State.withEngine_engine]; unfold Engine.ordered; split
    · exact h
    · split <;> exact h
  refine ⟨_, zoneTakesStore_is _, ?_, ?_, ?_⟩
  · rw [updateBound_is hb]; rfl
  · rw [updateBound_is hb]; exact updateRecord_is ..
  · intro b hb; cases b <;> simp at hb <;> simp [sameBlock]

theorem takePackStop_is {u : State} (h3 : u.engine.state ≠ .idle) (h4 : u.engine.state ≠ .done) :
    takePackStop u = markHot (u.withEngine (u.engine.ordered (.handBack .hot))) := by
  have hk : u.engine.state = .fault ∨ u.engine.state = .isolate →
      u.withEngine (u.engine.ordered (.handBack .hot)) = u := by
    rintro (h | h) <;> simp [Engine.ordered, h]
  unfold takePackStop
  cases hx : u.engine.state <;> simp_all [orderUnload_is]

/-- What the engine does at the filter change. -/
theorem engineTakesFilter_is (hot stop : Bool) (s : State) : FilterTaken hot stop s (engineTakesFilter hot stop s) := by
  have hu : (if hot ≠ channelOut s 5 then recomputeUnderLoad s else s)
      = (if hot = channelOut s 5 then s else { s with engine := retargeted s }) := by
    by_cases h : hot = channelOut s 5
    · simp [h]
    · rw [if_pos h, if_neg h, recomputeUnderLoad_is]; rfl
  refine ⟨_, rfl, ?_, ?_⟩
  all_goals
    unfold engineTakesFilter
    rw [hu]
    generalize hv : (if hot = channelOut s 5 then s else { s with engine := retargeted s }) = u
    have hst : u.engine.state = s.engine.state := by
      rw [← hv]; split
      · rfl
      · simp only [retargeted]; split
        · split <;> rfl
        · rfl
  · rintro (h | h | h | h)
    · simp [h]
    · simp [h]
    · simp [takePackStop, hst, h]
    · simp [takePackStop, hst, h]
  · intro h1 h2 h3 h4 id hid
    have hbd : u.engine.bound = some id := by
      rw [← hv, ← hid]; split
      · rfl
      · simp only [retargeted]; split
        · split <;> rfl
        · rfl
    have hsu : u.store = s.store := by rw [← hv]; split <;> rfl
    have hr : ∀ f, recordsWith id f s = recordsWith id f u := fun f => by simp [recordsWith, hsu]
    have ht := takePackStop_is (hst ▸ h3) (hst ▸ h4)
    rw [if_pos (by simp [h1, h2]), ← hsu, hr, ht]
    exact markHot_is hbd (.handBack .hot) _ rfl

/-- What the judging of a sample does. -/
theorem judge_is (fresh : Option Reading) (e : Engine) : SampleJudged fresh e (e.judge fresh) := by
  refine ⟨?_, ?_, ?_⟩
  · intro m h; subst h; rfl
  · intro h h1 h2; subst h
    simp [Engine.judge, satSucc, h1, show min (e.gap + 1) 255 = e.gap + 1 by omega]
    omega
  · intro h h1; subst h
    have : ¬(satSucc 255 e.gap ≤ 3 ∧ e.status ≠ .lost) := by
      simp only [satSucc]; rcases h1 with h1 | h1
      · simp [h1]
      · omega
    simp only [Engine.judge, this, if_false]; rfl

theorem stepping_iff (x : EngineState) : stepping x = true ↔ x ∈ [.ramp, .run, .unload] := by
  cases x <;> simp [stepping]

theorem settling_iff (x : EngineState) : settling x = true ↔ x ∈ [.ramp, .run] := by
  cases x <;> simp [settling]

/-- What integrating a fresh sample does. -/
theorem integrateSample_is (m : Reading) (s : State) : SampleIntegrated m s (integrateSample m s) := by
  unfold integrateSample
  refine ⟨?_, ?_, ?_⟩
  · intro h hv hi id hid
    rw [if_pos ((stepping_iff _).2 h), if_neg (by omega), if_pos ⟨hv, hi⟩, updateBound_is hid]
    exact ⟨updateRecord_is .., fun b hb => by cases b <;> simp at hb <;> simp [sameBlock]⟩
  · intro h hi
    rw [if_pos ((stepping_iff _).2 h), if_pos hi]; rfl
  · rintro (h | h | ⟨h, h'⟩)
    · rw [if_neg (fun x => h ((stepping_iff _).1 x))]
    · simp [h]
    · simp [show ¬m.i < 0 by omega, show ¬0 < m.v by omega]

theorem ordered_settling {e : Engine} (h : e.state ∈ [.ramp, .run]) (p : UnloadPurpose) : e.ordered p = e.unloading p := by
  unfold Engine.ordered; rw [if_pos]
  simp only [List.mem_cons, List.not_mem_nil, or_false] at h ⊢; tauto

/-- What the test of the polarity does. -/
theorem testPolarity_is (m : Reading) (s : State) : PolarityTested m s (testPolarity m s) := by
  unfold testPolarity
  refine ⟨?_, ?_⟩
  · intro h hv id hid
    rw [if_pos ⟨(settling_iff _).2 h, hv⟩, updateBound_is hid, orderUnload_is]
    refine ⟨?_, ?_, fun b hb => by cases b <;> simp at hb <;> simp [sameBlock]⟩
    · simp only [updateRecord_frame, State.withEngine_engine]; exact ordered_settling h _
    · exact updateRecord_is ..
  · intro h; rw [if_neg]; rintro ⟨h1, h2⟩
    rcases h with h | h
    · exact h ((settling_iff _).1 h1)
    · omega

theorem roundEnds_iff (m : Reading) (r : PackRecord) (s : State) : roundEnds m r s = true ↔ RoundEnded m r s := by
  unfold roundEnds RoundEnded countedEstimate
  cases r.data.eDecl <;> simp

/-- What the test for the end of the round does. -/
theorem testRoundEnd_is (m : Reading) (s : State) : RoundTested m s (testRoundEnd m s) := by
  unfold testRoundEnd boundRecord
  refine ⟨?_, ?_, ?_⟩
  · intro h hv id r hid hr he
    rw [if_pos ⟨(settling_iff _).2 h, hv⟩, hid]
    simp only [Option.bind_some, hr]
    rw [if_pos ((roundEnds_iff ..).2 he), orderUnload_is, ordered_settling h]; rfl
  · intro h hv id r hid hr he
    rw [if_pos ⟨(settling_iff _).2 h, hv⟩, hid]
    simp only [Option.bind_some, hr]
    rw [if_neg (fun x => he ((roundEnds_iff ..).1 x))]
  · intro h; rw [if_neg]; rintro ⟨h1, h2⟩
    rcases h with h | h
    · exact h ((settling_iff _).1 h1)
    · omega

/-- What the runs of an expiry become. -/
theorem updateRuns_is (was : EngineState) (fresh : Option Reading) (s : State) :
    RunsUpdated was fresh s (updateRuns was fresh s) := by
  have hn : ∀ {x : EngineState}, s.engine.state = x → settling x = settling s.engine.state := fun h => by rw [h]
  unfold updateRuns
  refine ⟨?_, ?_, ?_, ?_, ?_, ?_, ?_, ?_⟩
  · intro h m hm ha; subst hm
    simp only [(settling_iff _).2 h, if_true, onEngine, Engine.settle, agrees, ha, decide_true]; rfl
  · intro h m hm ha; subst hm
    simp only [(settling_iff _).2 h, if_true, onEngine, Engine.settle, agrees,
      show ¬(m.i - (s.engine.present * s.cfg.stepCurrent : Nat)).natAbs ≤ s.cfg.stepCurrent by omega, decide_false]; rfl
  · intro h1 h2 h3
    simp [h1, h2, settling, onEngine, Engine.countZero, h3]; rfl
  · intro h1 h2 h3
    rintro (h | ⟨h, m, hm, hi⟩)
    · simp [h1, h2, settling, onEngine, Engine.countZero, h3, h]; rfl
    · simp [h1, h2, settling, onEngine, Engine.countZero, h3, h, hm, hi]; rfl
  · rintro h1 h2 h3 h ⟨m, hm, hi⟩
    simp [h1, h2, settling, onEngine, Engine.countZero, h3, h, hm, show ¬m.i.natAbs < s.cfg.zeroThreshold by omega]; rfl
  · intro h1 h2 h3 h
    simp [h1, h2, settling, onEngine, Engine.countZero, h3, h]
  · intro h1 h2 m hm; subst hm
    simp only [h1, h2, settling, onEngine, Engine.countRest]
    by_cases hi : s.cfg.zeroThreshold ≤ m.i.natAbs <;> simp [hi] <;> rfl
  · rintro (h | ⟨h, h'⟩ | ⟨h, h'⟩)
    · cases hx : s.engine.state <;> simp_all [settling]
    · cases hx : s.engine.state <;> simp_all [settling]
    · subst h'; cases hx : s.engine.state <;> simp_all [settling]

/-- What the test for entry into RUN does. -/
theorem enterRun_is (s : State) : RunTested s (enterRun s) := by
  unfold enterRun
  exact ⟨fun h1 h2 h3 => by rw [if_pos ⟨h1, h2, h3⟩]; rfl, fun h => by rw [if_neg h]⟩

/-- What the engine of a BAY does at a sample timer expiry. -/
theorem engineExpiry_is (was : EngineState) (hot stop new : Bool) {s : State} (h : s.cfg.role = .bay) :
    EngineExpired was hot stop (freshReading new s) s (engineExpiry was hot stop new s) := by
  unfold engineExpiry
  rw [if_pos h]
  have hf : freshReading new (engineTakesFilter hot stop s) = freshReading new s := by
    simp [freshReading, measured]
  simp only [hf]
  cases hx : freshReading new s with
  | none => exact ⟨_, _, s, s, _, _, engineTakesFilter_is .., judge_is .., fun _ => rfl, (fun m hm => by cases hm),
      updateRuns_is .., enterRun_is _⟩
  | some m =>
    have key : ∃ e v w y, SampleJudged (some m) (engineTakesFilter hot stop s).engine e
        ∧ SampleIntegrated m { (engineTakesFilter hot stop s) with engine := e } v ∧ PolarityTested m v w
        ∧ RoundTested m w y
        ∧ y = takeFresh (some m) (onEngine (Engine.judge (some m)) (engineTakesFilter hot stop s)) :=
      ⟨_, _, _, _, judge_is .., integrateSample_is .., testPolarity_is .., testRoundEnd_is .., rfl⟩
    obtain ⟨e, v, w, y, h1, h2, h3, h4, h5⟩ := key
    subst h5
    exact ⟨_, e, v, w, _, _, engineTakesFilter_is .., h1, (fun h => by cases h), (fun m' hm => by cases hm; exact ⟨h2, h3, h4⟩),
      updateRuns_is .., enterRun_is _⟩

/-! ## A disputed record, and a consumed pack -/

/-- The Atmosphere Unit once a record is disputed (R77, R79, R145): the feed permit drops where that record is FEEDING. -/
theorem markDisputed_atm {id : PackId} {r : PackRecord} {s : State} (hr : findRecord id s = some r) :
    (markDisputed id s).atm = if r.state = .feeding then feedDropped .mark s else s.atm := by
  have hf : ∀ u : State, u.atm = s.atm → u.store.records = s.store.records.map (fun r =>
      if r.id = id then { r with data := { r.data with marks := { r.data.marks with disputed := true } } } else r) →
      feedDropped .mark u = feedDropped .mark s := by
    intro u ha hu
    have hm : (feedingRecord u).map PackRecord.id = (feedingRecord s).map PackRecord.id := by
      unfold feedingRecord; rw [hu]
      induction s.store.records with
      | nil => rfl
      | cons a l ih =>
        by_cases h : a.state = .feeding <;> by_cases h2 : a.id = id <;> simp_all
    unfold feedDropped; rw [ha]
    cases h1 : feedingRecord u <;> cases h2 : feedingRecord s <;> cases h3 : s.atm.feedPermit <;> simp_all
  simp only [markDisputed, hr, dropFeed_is]
  by_cases h : r.state = .feeding
  · simp only [Option.any_some, h, decide_true, if_true, raise_frame, State.withAtm_atm]
    exact hf _ (by simp) rfl
  · simp [h]

/-- What the pack handed over does to the counters and the open lot (R174, R176, R177): in the lot, the lot closed FULL, a new
lot, and a new lot closed at once. -/
theorem tallyConsumed_is (id : PackId) (residual : Nat) (s : State) :
    let x := { s.tally with
      consumed := s.tally.consumed.bump
      consumedResidual := addTotal s.tally.consumedResidual residual }
    let lot := ({ number := s.tally.nextLot, packs := [id], residualSum := residual, peak := s.atm.effective
                  epoch := s.start.epoch.getD 0 } : Lot)
    let y := { x with openLot := some lot, nextLot := lotAfter s.tally.nextLot }
    tallyConsumed id residual s = match s.tally.openLot with
      | some lot =>
        let lot' := { lot with packs := lot.packs ++ [id], residualSum := lot.residualSum + residual }
        if 47 ≤ lot.packs.length then closeLot .full (s.withTally { x with openLot := some lot' })
        else s.withTally { x with openLot := some lot' }
      | none =>
        if isAlarm s.zone.level then closeLot .alarm (s.withTally y)
        else if s.atm.state = .trip then closeLot .atmosphere (s.withTally y)
        else s.withTally y := by
  unfold tallyConsumed
  cases h : s.tally.openLot with
  | some lot => simp [enterLot, h, State.withTally]
  | none => simp [enterLot, openLot, State.withTally]

end Sys2Proof.Machine
end

