-- ==== Sys2Proof/Tests/Slice0.lean ====
section
/-! SUPPORT. Tests: the checks of WellFormed refuse, the commands do what the manual's rules and worked examples say (each
test names its source), and every statement's hypotheses are met by some state (`witness_<statement>`, clause by
clause). -/

open Sys2Proof Sys2Proof.Machine

namespace Sys2Proof.Tests

set_option Elab.async false

/-! ## Small states -/

/-- Curve 0 of the worked cases of 7.9. -/
def curve0 : Curve :=
  { inUse := true
    knots := [(2500, 0), (3000, 20), (3300, 60), (3450, 120), (3550, 250), (3650, 420), (3800, 640), (3950, 820),
      (4200, 1000)]
    cellMin := 2000
    cellMax := 4300
    endVoltage := 2800 }

def settings (role : Role) : Settings :=
  { station := 4, role := role, zone := 3, periodCode := 5, allowList := [7], defaultDestination := some 9
    curves := set1 (Vector.replicate 4 {}) 1 curve0
    iBay := 4000, stepCurrent := 100, rampInterval := 2, settleCount := 20, settleTimeout := 100, restTime := 60
    releaseLimit := 7200000, releaseCellVoltage := 3400, zeroThreshold := 50, maxPackEnergy := 400000000
    energyLimit := 36000000, derateTemp := 450, stopTemp := 600, purgeMax := 120, grantHold := 30
    releaseDelay := 30, detectorKinds := set1 (set1 (Vector.replicate 4 .absent) 1 .heat) 2 .flame }

/-- Station 9: an ADMITTED, IN STEP member of the own zone. -/
def peer9 : PeerEntry :=
  { admission := .admitted, recordedId := some 9, recordedRole := some .pass, recordedZone := some 3
    recordedPeriod := some 5, recordedEpoch := some 1, step := .inStep, published := some { freePlaces := 3 }
    silenceTimer := some 3, lastSequence := some 15 }

/-- A station of a role in RUNNING, with station 9 as its peer. -/
def running (role : Role) : State :=
  { State.reset with
    uniqueId := 18
    start := { phase := .running, epoch := some 58, configTaken := true }
    cfg := settings role
    peers := { periodTimer := true, entries := set1 (Vector.replicate 31 {}) 9 peer9 }
    bank := { sampleTimer := true } }

/-- A station in LOADING. -/
def loading : State := { State.reset with uniqueId := 18 }

/-- A station in LOADING whose configuration has been taken. -/
def configured : State := { loading with cfg := settings .bay, start := { configTaken := true } }

def halted : State := { loading with start := { phase := .safeHalt, failing := some .memory } }

/-- Pack 1, the pack of the worked cases of 7.9. -/
def pack1 : PackData :=
  { cells := 96, eNom := 216000000, eDecl := some 108000000, iPack := 4000, eDis := 105000000, rounds := 2 }

def record (st : RecordState) : PackRecord := { id := 1, data := pack1, state := st }

/-- A record in an exchange with station 9 under offer number 3. -/
def exchanged (st : RecordState) : PackRecord :=
  { record st with
    offerNumber := some 3
    destination := some 9
    sendCount := 3
    offerTimer := if st = .offered then some 4 else none
    transitTimer := if st = .inTransit then some 120500 else none }

/-- Pack 2 reserved for station 9. -/
def reservation2 : Reservation :=
  { station := 9, packId := 2, offerNumber := 3, number := 0, pack := {}, energy := 0, holdTimer := some 30 }

def holding (rs : List PackRecord) (s : State) : State := putRecords rs s

def reserving (rs : List Reservation) (s : State) : State := putReservations rs s

/-- A BAY whose engine stands in a state with pack 1 bound. -/
def bound (st : EngineState) (f : Engine → Engine) : State :=
  let s := holding [record .discharging] (running .bay)
  { s with engine := f { (s.engine.enter st) with bound := some 1, status := .valid, lastValid := some ⟨29280, 0, 300⟩ } }

/-- A channel's output turned SET. -/
def withSet (n : Nat) (s : State) : State :=
  { s with bank := { s.bank with channels := set1 s.bank.channels n { phase := .set, unforced := true, input := true } } }

def withLevel (l : ZoneLevel) (s : State) : State := { s with zone := { s.zone with level := l, cause := some .heat } }

def withAtm (a : AtmState) (s : State) : State := refreshStore { s with atm := s.atm.enter a }

def withLink (l : Link) (s : State) : State := { s with link := l }

/-- The own STATE, attempted. -/
def stateAttempt (s : State) : Attempt :=
  { frame := .state (ownState s), wire := frameBytes (.state (ownState s)) false }

def head9 (id : PackId) (n : Nat) : HandoffHead := { station := 9, destination := 4, packId := id, offerNumber := n }

/-- The state a command leaves. -/
def after (c : Instr) (s : State) : State :=
  match exec c s with
  | .next t => t
  | .fault _ => s
  | .refused _ => s

def replyOf (s : State) : Option (ReplyCode × ReplyReason) := s.port.pendingReply.map (fun r => (r.code, r.reason))

def zeros (n : Nat) : List Byte := List.replicate n 0

/-- The fields of a BAY's configuration block in the order of R198: up to the destinations, curve 0, those up to the chamber
energy limit, those up to the detector thresholds, and the rest. -/
def fields1 (station : Nat) : List Byte :=
  [station, 0, 3, 5, 0, 0].flatMap (beBytes 1) ++ zeros 240 ++ [9, 0, 0].flatMap (beBytes 1)
def fields2 : List Byte :=
  beBytes 1 1 ++ curve0.knots.flatMap (fun k => beBytes 2 k.1 ++ beBytes 2 k.2) ++ [2000, 4300, 2800].flatMap (beBytes 2)
def fields3 : List Byte :=
  [4000, 100].flatMap (beBytes 2) ++ [2, 20].flatMap (beBytes 1) ++ [100, 60].flatMap (beBytes 2) ++ beBytes 4 7200000
    ++ [3400, 50].flatMap (beBytes 2) ++ [400000000, 36000000].flatMap (beBytes 4)
def fields4 : List Byte :=
  [450, 600, 100, 300, 600, 100, 120].flatMap (beBytes 2) ++ [30, 30, 0, 0].flatMap (beBytes 1)
    ++ [0, 3, 4, 4].flatMap (beBytes 1) ++ [600, 500, 0, 0].flatMap (beBytes 2)
def fields5 : List Byte :=
  (List.range 16).flatMap (fun _ => beBytes 1 2 ++ beBytes 2 1 ++ beBytes 2 1) ++ beBytes 1 0 ++ [0, 0].flatMap (beBytes 2)

/-- The bytes of a configuration block but for its check. -/
def fields (station : Nat) : List Byte :=
  fields1 station ++ fields2 ++ zeros 43 ++ zeros 43 ++ zeros 43 ++ fields3 ++ fields4 ++ fields5

/-- The block, its check behind its fields. -/
def withCheck (l : List Byte) : List Byte := l ++ beBytes 2 (frameCheck l).toNat

theorem beBytes_length : ∀ k v : Nat, (beBytes k v).length = k
  | 0, _ => rfl
  | k + 1, v => by simp [beBytes, beBytes_length k v]

theorem zeros_length (n : Nat) : (zeros n).length = n := List.length_replicate ..

theorem fields_length (station : Nat) : (fields station).length = 562 := by
  have h1 : (fields1 station).length = 249 := by simp [fields1, beBytes_length, zeros_length]
  have h2 : fields2.length = 43 := by simp [fields2, curve0, beBytes_length]
  have h3 : fields3.length = 26 := by simp [fields3, beBytes_length]
  have h4 : fields4.length = 30 := by simp [fields4, beBytes_length]
  have h5 : fields5.length = 85 := by simp [fields5, List.length_flatMap, beBytes_length]
  simp only [fields, List.length_append, zeros_length, h1, h2, h3, h4, h5]

theorem withCheck_length {l : List Byte} (h : l.length = 562) : (withCheck l).length = 564 := by
  rw [withCheck, List.length_append, h, beBytes_length]

/-- The stored check is the one the fields have. -/
theorem withCheck_check {l : List Byte} (h : l.length = 562) :
    frameCheck ((withCheck l).take 562) = storedCheckOf (withCheck l) := by
  have hv := (frameCheck l).isLt
  rw [withCheck, List.take_left' h, storedCheckOf, field, List.drop_left' h]
  generalize frameCheck l = c at hv ⊢
  apply BitVec.eq_of_toNat_eq
  simp only [beBytes, beNat, List.take, List.foldl, BitVec.toNat_ofNat]
  omega

/-- With the check right, the range and relation tests decide. -/
theorem checkBlock_range {l : List Byte} (h : l.length = 562) :
    checkBlock (withCheck l) = (match firstFailing (rangeTests (withCheck l) (readSettings (withCheck l))) with
      | some (f, k) => some (.range f k)
      | none =>
        match firstFailing (relationTests (readSettings (withCheck l))) with
        | some (f, k) => some (.relation f k)
        | none => none) := by
  unfold checkBlock
  exact if_neg (fun hn => hn (withCheck_check h))

theorem block_read (station : Nat) :
    readBlock [none, some (withCheck (fields station))] = some (withCheck (fields station)) := by
  simp [readBlock, firstAck, blockAnswer, blockLength, withCheck_length (fields_length station)]

/-- A configuration that passes every test of R198. -/
theorem test_configuration_passes : checkBlock (withCheck (fields 4)) = none :=
  (checkBlock_range (fields_length 4)).trans (by decide +kernel)

/-- Station 0 is out of range (R198). -/
theorem test_configuration_fails : checkBlock (withCheck (fields 0)) = some (.range .station none) :=
  (checkBlock_range (fields_length 0)).trans (by decide +kernel)

/-- The passing block's fields with one byte changed. -/
def changed (place : Nat) (v : Byte) : List Byte := (fields 4).set place v

theorem changed_length (place : Nat) (v : Byte) : (changed place v).length = 562 := by
  rw [changed, List.length_set, fields_length]

/-- Curve 1 out of range, I_bay out of range, and the own number as the default destination. -/
theorem curve_fails : checkBlock (withCheck (changed 292 2)) = some (.range .curve (some 1)) :=
  (checkBlock_range (changed_length 292 2)).trans (by decide +kernel)
theorem iBay_fails : checkBlock (withCheck (changed 421 255)) = some (.range .iBay none) :=
  (checkBlock_range (changed_length 421 255)).trans (by decide +kernel)
theorem destination_fails : checkBlock (withCheck (changed 246 4)) = some (.relation .defaultDestination none) :=
  (checkBlock_range (changed_length 246 4)).trans (by decide +kernel)

/-- A block under the complement of its check. -/
theorem check_fails {l : List Byte} (h : l.length = 562) :
    checkBlock (l ++ beBytes 2 (~~~(frameCheck l)).toNat) = some .check := by
  unfold checkBlock
  rw [List.take_left' h, storedCheckOf, field, List.drop_left' h]
  generalize frameCheck l = c
  have hv := (~~~c).isLt
  have hc : BitVec.ofNat 16 (beNat ((beBytes 2 (~~~c).toNat).take 2)) = ~~~c := by
    generalize ~~~c = d at hv ⊢
    apply BitVec.eq_of_toNat_eq
    simp only [beBytes, beNat, List.take, List.foldl, BitVec.toNat_ofNat]
    omega
  rw [hc, if_pos]
  intro h
  have := congrArg (fun c : Check => c.getLsbD 0) h
  simp at this

/-- A block that is not acknowledged is asked for three times, from memory address 0 of the device at hexadecimal 50 (R197,
R198). -/
theorem test_configuration_transactions :
    (after (.configurationRead [none, none, none, some []]) loading).start.transactions
      = List.replicate 3 { address := 0x50, sent := [0x00, 0x00], read := 564 } := by decide +kernel

/-- The epoch byte at memory address 1023 is read, written and read again (R197, R199). -/
theorem test_epoch_transactions :
    (after (.epochWrite [some 57] [false, true] [some 58]) configured).start.transactions
      = [⟨0x50, [0x03, 0xFF], 1⟩, ⟨0x50, [0x03, 0xFF, 58], 0⟩, ⟨0x50, [0x03, 0xFF, 58], 0⟩, ⟨0x50, [0x03, 0xFF], 1⟩] := by
  decide +kernel

/-- READ CONFIG STATUS gives the failing field, its reason and its index in this order (R185, R202), here RANGE of curve 2. -/
theorem test_config_status_order :
    ((configStatusItems { loading with start := { phase := .safeHalt, failing := some (.range .curve (some 2)) } }).flatMap
      Item.bytes).take 7 = [3, 1, 1, BitVec.ofNat 8 (configFieldCode .curve), 2, 1, 2] := by decide +kernel

/-! ## WellFormed refuses an ill-formed term for each of its checks -/

theorem test_wf_start_inputs :
    (Instr.configurationRead [none, none, none, none]).wellFormed = false
      ∧ (Instr.epochWrite [none, none, none, none] [] []).wellFormed = false
      ∧ (Instr.epochWrite [] [true, true, true, true] []).wellFormed = false
      ∧ (Instr.epochWrite [] [] [none, none, none, none]).wellFormed = false := by decide +kernel

theorem test_wf_line_bits :
    (Instr.contentionLost 0).wellFormed = false ∧ (Instr.contentionLost 8).wellFormed = false
      ∧ (Instr.frameAbort 720).wellFormed = false ∧ (Instr.malformedLength 8).wellFormed = false
      ∧ (Instr.malformedLength 72).wellFormed = false ∧ (Instr.badFrame []).wellFormed = false
      ∧ (Instr.badFrame (List.replicate 73 0)).wellFormed = false := by decide +kernel

def goodAlarm : AlarmFrame := { station := 9, zone := 3, level := .alarmUnconfirmed, testFlag := false, cause := .gas }

theorem test_wf_good_frame_is_no_bad_frame :
    (Instr.badFrame (frameBytes (.alarm goodAlarm) false)).wellFormed = false
      ∧ (Instr.badFrame (frameBytes (.alarm goodAlarm) true)).wellFormed = true := by decide +kernel

def goodState : StateFrame := { station := 9, role := .pass, zone := 3, periodCode := 5, epoch := 1 }

theorem test_wf_state :
    (Instr.stateReceived goodState).wellFormed = true
      ∧ ∀ f ∈ [{ goodState with station := 0 }, { goodState with station := 32 }, { goodState with zone := 0 },
          { goodState with zone := 9 }, { goodState with periodCode := 1 }, { goodState with periodCode := 21 },
          { goodState with epoch := 256 }, { goodState with sequence := 16 }, { goodState with healthy := 5 },
          { goodState with allowance := 4294967296 }, { goodState with freePlaces := 9 },
          { goodState with heldCount := 256 }, { goodState with consumedCount := 65536 },
          { goodState with openLot := 65536 }, { goodState with echo := 256 },
          { goodState with unheard := (List.range 9).map (fun n => { reason := .silent, station := n + 1 }) },
          { goodState with unheard := [{ reason := .silent, station := 0 }] },
          { goodState with unheard := [{ reason := .silent, station := 5 }, { reason := .clash, station := 5 }] }],
        (Instr.stateReceived f).wellFormed = false := by decide +kernel

theorem test_wf_alarm_and_join :
    (Instr.alarmReceived { goodAlarm with zone := 9 }).wellFormed = false
      ∧ (Instr.alarmReceived { goodAlarm with station := 0 }).wellFormed = false
      ∧ ∀ f ∈ [(⟨0, .pass, 3, 5, 1, 9⟩ : JoinFrame), ⟨9, .pass, 0, 5, 1, 9⟩, ⟨9, .pass, 3, 21, 1, 9⟩,
          ⟨9, .pass, 3, 5, 256, 9⟩], (Instr.joinReceived f).wellFormed = false := by decide +kernel

theorem test_wf_offer :
    (Instr.offerReceived { head := head9 1 3, pack := pack1 }).wellFormed = true
      ∧ ∀ p ∈ [{ pack1 with chemistry := 4 }, { pack1 with grade := 4 }, { pack1 with cells := 0 },
          { pack1 with cells := 241 }, { pack1 with eNom := 0 }, { pack1 with eNom := 4294967296 },
          { pack1 with eDecl := some 4294967296 }, { pack1 with iPack := 0 }, { pack1 with iPack := 40001 },
          { pack1 with eDis := 4294967296 }, { pack1 with eDisRem := 1000000 },
          { pack1 with residual := some 4294967296 }, { pack1 with rounds := 5 },
          { pack1 with history := List.replicate 7 ⟨1, .fed⟩ }, { pack1 with history := [⟨0, .fed⟩] }],
        (Instr.offerReceived { head := head9 1 3, pack := p }).wellFormed = false := by decide +kernel

theorem test_wf_handoff_heads :
    (Instr.grantReceived { head := head9 1 3, reservation := 256 }).wellFormed = false
      ∧ (Instr.grantReceived { head := head9 1 256, reservation := 0 }).wellFormed = false
      ∧ (Instr.refuseReceived { head := { head9 1 3 with station := 32 }, reason := .full }).wellFormed = false
      ∧ (Instr.takenReceived { head := { head9 1 3 with destination := 0 }, late := false }).wellFormed = false
      ∧ (Instr.cancelReceived { head := head9 1 256, reason := .abort }).wellFormed = false := by decide +kernel

theorem test_wf_rest :
    (Instr.refusalStreakQuiet 0).wellFormed = false ∧ (Instr.silenceTimerExpiry 32).wellFormed = false
      ∧ (Instr.sampleSetArrival [] 8).wellFormed = false ∧ (Instr.badEnvelope []).wellFormed = false := by
  decide +kernel

/-- No row of the table gives bits. -/
theorem test_no_word_spells_a_command : decodeTableWord 8 5 = none ∧ decodeTableWord 32 0 = none := by decide

/-! ## The line -/

/-- The header and the payload of an ALARM as R18 lays them out: class 0 and station 9 in H0, kind 0, length 8; zone and
level in P0, the cause in P1. -/
theorem test_alarm_layout :
    (frameBytes (.alarm goodAlarm) false).take 6 =
      [0b00010010, 0, 8, 18, 2, 0] := by decide +kernel

/-- The example of 2.7, attempt 5: with three handoff frames sent ahead, the waiting STATE goes before H4. -/
theorem test_state_goes_after_three :
    ((after .quietIntervalEnd (withLink { stateSlot := some goodState, ahead := 3, queue := [.taken ⟨head9 1 3, false⟩] }
      (running .chamber))).link.attempt.map (fun a => a.frame)) = some (.state goodState) := by decide +kernel

/-- The example of 2.7, attempt 3: an ALARM goes first. -/
theorem test_alarm_goes_first :
    ((after .quietIntervalEnd (withLink { alarmSlot := some goodAlarm, stateSlot := some goodState, ahead := 3 }
      (running .chamber))).link.attempt.map (fun a => a.frame)) = some (.alarm goodAlarm) := by decide +kernel

/-- The silent peer of 3.6: STATE 13 after STATE 9 records three MISS and one HIT. -/
theorem test_skipped_states_are_misses :
    let e : PeerEntry := { peer9 with
      lastSequence := some 9, window := [.miss, .miss, .miss, .hit, .hit, .hit, .hit, .hit], step := .outOfStep }
    let s := (running .chamber).setPeer 9 e
    ((after (.stateReceived { goodState with sequence := 13 }) s).peer 9).window =
      [.hit, .miss, .miss, .miss, .miss, .miss, .miss, .hit] := by decide +kernel

/-- The silent peer of 3.6: the third MISS takes the entry OUT OF STEP. -/
theorem test_third_miss_is_out_of_step :
    let e : PeerEntry := { peer9 with window := [.miss, .miss, .hit, .hit, .hit, .hit, .hit, .hit] }
    ((after (.silenceTimerExpiry 9) ((running .chamber).setPeer 9 e)).peer 9).step = .outOfStep := by decide +kernel

/-- The CLOSED mode example of 3.7, period 4: a JOIN of an unlisted ID is refused NOT LISTED. -/
theorem test_unlisted_join_is_refused :
    let s := running .chamber
    ((after (.joinReceived ⟨12, .pass, 3, 5, 1, 99⟩) { s with peers := { s.peers with mode := .closed } }).peer 12).admission
      = .refused .notListed := by decide +kernel

/-- The third abort in a row makes the link CLASHED, and an aborted attempt is the third (R5, R7). -/
theorem test_third_abort_clashes :
    let s := withLink { suspicion := 2, attempt := some (stateAttempt (running .bay)) } (running .bay)
    (after (.frameAbort 8) s).link.state = .clashed := by decide +kernel

/-! ## Packs -/

/-- The transfer example of 5.10: at 203 ms the GRANT puts the record IN TRANSIT and asserts the permit. -/
theorem test_grant_starts_transit :
    let s := after (.grantReceived { head := head9 1 3, reservation := 6 }) (holding [exchanged .offered] (running .bay))
    s.store.permit = true ∧ s.store.records.map (fun r => r.state) = [.inTransit] := by decide +kernel

/-- The transfer example of 5.10: the TAKEN removes the record and counts it released. -/
theorem test_taken_releases :
    let s := after (.takenReceived { head := head9 1 3, late := false }) (holding [exchanged .inTransit] (running .bay))
    s.store.records = [] ∧ s.tally.released.value = 1 ∧ s.store.permit = false := by decide +kernel

/-- The allowance example of 5.11, step 2: 18,484,000 J exceed the limit of 18,000,000 J in WATCH. -/
theorem test_budget_refusal :
    let x : PackRecord := { record .held with data := { pack1 with residual := some 5832000 } }
    let y : Reservation := { reservation2 with energy := 10152000 }
    let s := reserving [y] (holding [x] (withAtm .watch (running .chamber)))
    s.store.allowance = 2016000
      ∧ (after (.offerReceived { head := head9 5 0, pack := { pack1 with residual := some 2500000 } }) s).link.queue =
        [.refuse { head := headTo s 9 5 0, reason := .budget }] := by decide +kernel

/-- A CHAMBER does not admit packs (R60). -/
theorem test_admit_at_a_chamber_is_refused :
    replyOf (after (.admitPack 1 ⟨5, 0, 96, 216000000, 0, 0, 3000, 0⟩) (running .chamber)) =
      some (.refused, .because .role) := by decide +kernel

/-- An I_pack above 40000 is clamped and the reply says so (R60). -/
theorem test_admit_clamps :
    replyOf (after (.admitPack 1 ⟨5, 0, 96, 216000000, 0, 0, 50000, 0⟩) (running .bay)) = some (.done, .clamped) := by
  decide +kernel

/-- A pack without a reservation becomes an UNTRACKED placeholder with the greatest pack energy (R76). -/
theorem test_unexpected_arrival :
    ((after (.arrived 1 5 4) (running .pass)).store.records.map (fun r => (r.state, r.data.residual, r.data.marks.untracked)))
      = [(.ready, some 400000000, true)] := by decide +kernel

/-! ## The engine -/

/-- The example of 6.11 at START: I_cmd is 3000 and the target step 30. -/
theorem test_start_target :
    let a : PackRecord := { record .held with data := { pack1 with grade := 1, iPack := 3000 } }
    let s := holding [a] (running .bay)
    let t := after (.start 1) { s with engine := { s.engine with status := .valid } }
    t.engine.iCmd = 3000 ∧ t.engine.target = 30 ∧ t.engine.contactor = true ∧ t.engine.checkTimer = some 50 := by
  decide +kernel

/-- The example of 6.12: an unload count of 227 passes the bound of 226 and isolates. -/
theorem test_stuck_load_isolates :
    let s := bound .unload (fun e => { e with purpose := some (.handBack .stopped), unloadCount := 227 })
    (after .loadStuck s).engine.state = .isolate ∧ (after .loadStuck s).engine.contactor = false := by decide +kernel

/-- The example of 6.12: at 226 the bound is not passed. -/
theorem test_load_at_its_bound_is_not_stuck :
    (after .loadStuck (bound .unload (fun e => { e with unloadCount := 226 }))).engine.state = .unload := by
  decide +kernel

/-- The example of 6.12 at sample 277: a current still flowing is ISOLATION FAILED, and the zone is confirmed. -/
theorem test_isolation_failed :
    let s := bound .isolate (fun e => { e with checkTimer := some 0, lastValid := some ⟨38000, 1200, 300⟩ })
    (after .contactorCheckExpiry s).zone.level = .alarmConfirmed
      ∧ (after .contactorCheckExpiry s).zone.cause = some .electrical
      ∧ (after .contactorCheckExpiry s).zone.isolationLatch = true := by decide +kernel

/-! ## Residual energy: the worked cases of 7.9 -/

/-- Round 1: v_c 3350, f 80, E_v 17,280,000 J, E_c 13,000,000 J, FAIL (ENERGY). -/
theorem test_round_1 :
    computeFigures (running .bay) 32160 { pack1 with eDis := 95000000 } =
      { cellVoltage := 3350, segment := .index 2, fraction := 80, eV := 17280000, eC := some 13000000
        residual := 17280000, basis := .voltage, outcome := .fail true false } := by decide +kernel

/-- The rounding variant (f 85), and the counted basis (28,000,000 J, COUNTED). -/
theorem test_rounding_and_counted :
    (computeFigures (running .bay) 32266 pack1).fraction = 85
      ∧ (computeFigures (running .bay) 32266 pack1).eV = 18360000
      ∧ (computeFigures (running .bay) 32160 { pack1 with eDis := 80000000 }).residual = 28000000
      ∧ (computeFigures (running .bay) 32160 { pack1 with eDis := 80000000 }).basis = .counted := by decide +kernel

/-- Round 3 releases the pack: READY with 5,832,000 J, DONE and at once IDLE, its E_dis to the tally. -/
theorem test_round_3_releases :
    let t := after .restTimerExpiry (bound .rest (fun e => { e with restTimer := some 0 }))
    t.engine.state = .idle ∧ t.tally.discharged = 105000000
      ∧ t.store.records.map (fun r => (r.state, r.data.residual, r.data.rounds)) = [(.ready, some 5832000, 2)] := by
  decide +kernel

/-- The ends of the curve. -/
theorem test_ends_of_the_curve :
    (computeFigures (running .bay) 23000 pack1).eV = 0 ∧ (computeFigures (running .bay) 23000 pack1).cellVoltage = 2395
      ∧ (computeFigures (running .bay) 41000 pack1).eV = 216000000 := by decide +kernel

/-- The integration of two samples (729 J and 600,000 µJ), and the saturation of the accumulator. -/
theorem test_integration :
    let two := integrate (36480 * 10000) (integrate (36480 * 10000) { pack1 with eDis := 0 })
    let full := integrate 4000000000 { pack1 with eDis := 4294967000, eDisRem := 500000 }
    (two.eDis, two.eDisRem) = (729, 600000) ∧ (full.eDis, full.eDisRem) = (4294967295, 999999) := by decide +kernel

/-! ## Filters, chamber, zone, tally -/

/-- The gas detector of 4.7, expiries 3 to 5: A = 3 asserts at the third true evaluation. -/
theorem test_gas_detector_asserts :
    let c : ChannelSettings := { enabled := true, countA := 3, countB := 5 }
    let run (l : List Bool) := l.foldl (fun ch b => evaluate c (some b) ch) ({} : Channel)
    (run [true, false, true, true]).output = false ∧ (run [true, false, true, true, true]).output = true := by
  decide +kernel

/-- The gas detector of 4.7, expiries 13 to 17: a forced output carries TEST until the real release. -/
theorem test_proof_test_turns_real :
    let c : ChannelSettings := { enabled := true, countA := 3, countB := 5 }
    let run (l : List Bool) := l.foldl (fun ch b => evaluate c (some b) ch) ({ force := true } : Channel)
    (run [false, false, false]).mark = true ∧ (run [false, false, false]).force = false
      ∧ (run [false, false, false, false, true]).mark = false
      ∧ (run [false, false, false, false, true]).output = true := by decide +kernel

/-- The chamber of 8.10: PURGE opens both valves at attempt 1; its first expiry begins attempt 2. -/
theorem test_purge :
    let s := withSet 7 (running .chamber)
    (after (.purge 1) s).atm.purgeValve = true ∧ (after (.purge 1) s).atm.makeUpValve = true
      ∧ (after .purgeTimerExpiry (after (.purge 1) s)).atm.attempts = 2 := by decide +kernel

/-- The chamber of 8.10 at 1013 s: FEED in OPEN is NOT PERMITTED, naming ATMOSPHERE. -/
theorem test_feed_in_open :
    let t := after (.feed 1) (holding [record .held] (running .chamber))
    t.port.pendingReply.map (fun r => (r.reason, r.data)) = some (.because .notPermitted, [.nat 1 1]) := by
  decide +kernel

/-- The chamber of 8.10 at 1000 s: FEED in INERT feeds the oldest HELD record. -/
theorem test_feed_in_inert :
    let t := after (.feed 1) (holding [record .held] (withAtm .inert (running .chamber)))
    t.atm.feedPermit = true ∧ t.store.records.map (fun r => r.state) = [.feeding] := by decide +kernel

/-- The zone of 9.10 at 0.00+ s: ALARM COUNTDOWN taken at a station without suppression is ALARM CONFIRMED, PEER. -/
theorem test_countdown_alarm_confirms :
    let t := after (.alarmReceived { goodAlarm with level := .countdown, cause := .heat }) (running .bay)
    t.zone.level = .alarmConfirmed ∧ t.zone.cause = some .peer := by decide +kernel

/-- The zone of 9.10 at 42.00 s: the countdown ends in RELEASED with suppression asserted. -/
theorem test_countdown_ends :
    let s := withLevel .countdown (running .chamber)
    let t := after .countdownEnd { s with zone := { s.zone with countdown := true, endDue := true } }
    t.zone.level = .released ∧ t.zone.suppression = true := by decide +kernel

/-- The zone of 9.10 at 310 s: RESTORE ZONE without the key is refused KEY. -/
theorem test_restore_needs_key :
    replyOf (after (.restoreZone 1) (withLevel .released (running .chamber))) = some (.refused, .because .key) := by
  decide +kernel

/-- The lots of 10.6, step 6: a pack consumed at an ALARM level stands alone in a lot closed with ALARM. -/
theorem test_lot_closes_by_alarm :
    let s := withLevel .countdown (running .chamber)
    let t := tallyConsumed 3 2500000 { s with tally := { s.tally with nextLot := 12 } }
    t.tally.openLot = none ∧ t.tally.closedLots.map (fun l => (l.number, l.packs, l.closeReason)) = [(12, [3], some .alarm)] := by
  decide +kernel

/-- The lots of 10.6, step 7: CLOSE LOT with no lot open is refused NONE. -/
theorem test_close_lot_without_lot :
    replyOf (after (.closeLot 1) (running .chamber)) = some (.refused, .because .none) := by decide +kernel

/-! ## The port -/

/-- The example of 11.7 at T3 and T4: a reply that replaces an unread one carries the overrun flag, and its reading takes
off what it returned. -/
theorem test_split_event_read :
    let s0 := after (.stop 6) (raise .dischargeEnd (raise .zoneChange (raise .zoneChange (running .bay))))
    let s1 := after (.readEvents 7) s0
    let s2 := after (.replyRead 64) (raise .zoneChange s1)
    s1.port.pendingReply.map (fun r => r.overrun) = some true ∧ s1.port.overruns = 1 ∧ s2.port.overruns = 0
      ∧ at1 0 s2.port.counts 9 = 1 ∧ at1 0 s2.port.counts 7 = 0 ∧ s2.port.pendingReply = none := by decide +kernel

/-- A request refused before its configuration is taken, and one in SAFE HALT (R202). -/
theorem test_gate :
    replyOf (after (.readStore 1) loading) = some (.refused, .because .starting)
      ∧ replyOf (after (.readStore 1) halted) = some (.refused, .because .halted)
      ∧ replyOf (after (.readConfigStatus 1) halted) = some (.done, .none) := by decide +kernel

/-- An envelope whose total is not 0 is BAD, SUM (R186). -/
theorem test_bad_sum :
    replyOf (after (.badEnvelope [4, 2, 9, 0]) (running .bay)) = some (.bad, .because .sum) := by decide +kernel

/-! ## Every statement's hypotheses are met: clause by clause, at the bounds of their ranges -/

theorem witness_StepTakesFront :
    ({ running .bay with pending := [.start 1, .stop 2] } : State).pending = .start 1 :: [.stop 2]
      ∧ (running .bay).pending = [] := ⟨rfl, rfl⟩

theorem witness_StartIsOrdered :
    (∃ t, exec .startReset (running .bay) = .next t ∧ t.start.phase = .loading)
      ∧ (∃ t, exec .enterRunning { running .bay with
            start := { phase := .listening }, peers := { periodTimer := true, periodCount := 3 } } = .next t
          ∧ t.start.phase = .running)
      ∧ (∃ t, exec (.readEvents 1) halted = .next t ∧ halted.start.phase = .safeHalt)
      ∧ (∃ t, exec (.configurationRead []) loading = .next t ∧ t.start.phase = .safeHalt)
      ∧ (∃ t, exec (.epochWrite [] [] []) { loading with start := { configTaken := true } } = .next t
          ∧ t.start.phase = .listening)
      ∧ ∃ t, exec .enterRunning { running .bay with
            start := { phase := .listening }, peers := { periodTimer := true, periodCount := 2 } } = .next t
          ∧ t.start.phase = .listening :=
  ⟨⟨_, rfl, by decide +kernel⟩, ⟨_, rfl, by decide +kernel⟩, ⟨_, rfl, by decide +kernel⟩, ⟨_, rfl, by decide +kernel⟩,
    ⟨_, rfl, by decide +kernel⟩, ⟨_, rfl, by decide +kernel⟩⟩

theorem witness_RequestTagReturned :
    requestParts (.readLot 7 3) = some (33, 7, [0, 3]) ∧ ∃ t, exec (.readLot 7 3) (running .chamber) = .next t :=
  ⟨by decide +kernel, _, rfl⟩

theorem witness_RequestsBeforeListening :
    requestParts (.setMask 7 1 2) = some (35, 7, [0, 1, 0, 2]) ∧ requestParts (.closeLot 7) = some (31, 7, [])
      ∧ noneDue loading = true ∧ loading.start.phase = .loading
      ∧ noneDue halted = true ∧ halted.start.phase = .safeHalt := by decide +kernel

theorem witness_SentFrameIsReceived :
    frameOk (.alarm goodAlarm) = true
      ∧ frameOk (.join ⟨31, .chamber, 8, 20, 255, 0xFFFFFFFFFFFFFFFF⟩) = true
      ∧ frameOk (.handoff (.offer { head := head9 1 255, pack := { pack1 with
          cells := 240, iPack := 40000, rounds := 4, history := List.replicate 6 ⟨31, .faulted⟩ } })) = true
      ∧ frameOk (.state { goodState with
          sequence := 15, healthy := 4, freePlaces := 8, echo := 255
          unheard := (List.range 8).map (fun n => { reason := .clash, station := n + 1 }) }) = true := by decide +kernel

theorem witness_EnvelopeSpellsRequest :
    (∃ bs, requestEnvelope (.readLink 5) = some bs) ∧ ∃ bs, requestEnvelope (.admitPack 5 ⟨1, 0, 1, 1, 1, 1, 1, 3⟩) = some bs :=
  ⟨⟨_, rfl⟩, ⟨_, rfl⟩⟩

/-- A safe state at work: a BAY holding pack 1 whose START waits. -/
def atWork : State :=
  let s := holding [record .held] (running .bay)
  { s with engine := { s.engine with status := .valid }, pending := [.start 1]
           tally := { s.tally with admitted := { value := 1 } } }

theorem counts_start (n : Nat) : at1 0 (Vector.replicate 16 0) n ≤ 255 := by
  unfold at1
  split
  · omega
  · rw [Vector.getElem?_replicate]; split <;> simp

theorem atWork_safe : Safe atWork := by
  constructor
  · constructor <;> decide +kernel
  · exact fun h => absurd rfl h
  · constructor <;> decide +kernel
  · constructor <;> decide +kernel
  · constructor <;> decide +kernel
  · constructor; decide +kernel
  · constructor
    · intro l h; cases h
    · intro l h; cases h
    · decide +kernel
  · intro h; cases h
  · intro h; cases h
  · constructor <;> decide +kernel
  · constructor <;> decide +kernel
  · exact ⟨by decide +kernel, counts_start⟩

/-- The hypotheses of every statement that a step keeps something of `Safe`. -/
theorem witness_StepKeeps : Safe atWork ∧ ∃ t, step atWork = .next t := ⟨atWork_safe, _, rfl⟩

theorem witness_StepKeepsEngineSafe : Safe atWork ∧ ∃ t, step atWork = .next t := witness_StepKeeps
theorem witness_StepKeepsLinkSafe : Safe atWork ∧ ∃ t, step atWork = .next t := witness_StepKeeps
theorem witness_StepKeepsStoreFormed : Safe atWork ∧ ∃ t, step atWork = .next t := witness_StepKeeps
theorem witness_StepKeepsTally : Safe atWork ∧ ∃ t, step atWork = .next t := witness_StepKeeps
theorem witness_StepKeepsInactive : Safe atWork ∧ ∃ t, step atWork = .next t := witness_StepKeeps
theorem witness_StepKeepsFeedSafe : Safe atWork ∧ ∃ t, step atWork = .next t := witness_StepKeeps
theorem witness_StepKeepsSuppressionSafe : Safe atWork ∧ ∃ t, step atWork = .next t := witness_StepKeeps
theorem witness_StepKeepsOutputs : Safe atWork ∧ ∃ t, step atWork = .next t := witness_StepKeeps

theorem witness_ContactorClosesByStart :
    EngineSafe atWork ∧ ∃ t, exec (.start 1) atWork = .next t ∧ atWork.engine.contactor = false
      ∧ t.engine.contactor = true := ⟨atWork_safe.engine, _, rfl, by decide +kernel, by decide +kernel⟩

def countingDown : State :=
  let s := withLevel .countdown (running .chamber)
  { s with zone := { s.zone with countdown := true, endDue := true } }

theorem witness_SuppressionByCountdown :
    ∃ t, exec .countdownEnd countingDown = .next t ∧ countingDown.zone.suppression = false
      ∧ t.zone.suppression = true := ⟨_, rfl, by decide +kernel, by decide +kernel⟩

theorem witness_ConfigurationTakenOrHalted :
    loading.start.phase = .loading ∧ loading.start.configTaken = false
      ∧ readBlock [none, none, none] = none
      ∧ readBlock [none, some (withCheck (fields 0))] = some (withCheck (fields 0))
      ∧ checkBlock (withCheck (fields 0)) = some (.range .station none)
      ∧ checkBlock (withCheck (changed 292 2)) = some (.range .curve (some 1))
      ∧ checkBlock (withCheck (changed 421 255)) = some (.range .iBay none)
      ∧ checkBlock (withCheck (changed 246 4)) = some (.relation .defaultDestination none)
      ∧ checkBlock (fields 4 ++ beBytes 2 (~~~(frameCheck (fields 4))).toNat) = some .check
      ∧ readBlock [none, some (withCheck (fields 4))] = some (withCheck (fields 4))
      ∧ checkBlock (withCheck (fields 4)) = none :=
  ⟨by decide, by decide, by decide, block_read 0, test_configuration_fails, curve_fails, iBay_fails, destination_fails,
    check_fails (fields_length 4), block_read 4, test_configuration_passes⟩

theorem witness_EpochWriteBeginsListening :
    configured.start.phase = .loading ∧ configured.start.configTaken = true ∧ Inactive configured
      ∧ firstAck [none, none, some (255 : Byte)] = some 255 ∧ firstAck ([none, none, none] : List (Option Byte)) = none
      ∧ epochWritten 0 [false, false, true] [some 0] = true ∧ epochWritten 0 [true] [some 1] = false :=
  ⟨by decide, by decide, ⟨rfl, rfl, rfl, rfl, rfl, rfl, rfl, rfl, rfl⟩, by decide, by decide, by decide, by decide⟩

theorem witness_PeriodStepsDue :
    (let s := { running .bay with start := { phase := .listening }, peers := { periodCount := 3 } };
      quietCountdown s = true ∧ s.start.phase = .listening ∧ 3 ≤ s.peers.periodCount)
      ∧ (let s := { running .bay with peers := { periodCount := 20 } };
        quietRunning s = true ∧ s.peers.windowOpen = true ∧ 20 ≤ s.peers.periodCount)
      ∧ (let s0 := (running .bay).setPeer 31 { peer9 with streak := 1 };
        let s := { s0 with store := { s0.store with quiet := set1 s0.store.quiet 31 20 } };
        quietWindow s = true ∧ stationOk 31 = true ∧ 0 < (s.peer 31).streak ∧ 20 ≤ at1 0 s.store.quiet 31) := by
  decide +kernel

def taken9 : HandoffFrame := .taken ⟨{ head9 1 3 with station := 4, destination := 9 }, false⟩

def alarm4 : AlarmFrame := { goodAlarm with station := 4 }

theorem witness_QuietIntervalChoosesFrame :
    (let s := withLink { alarmSlot := some alarm4, queue := [taken9] } (running .bay);
      Ready s ∧ s.link.state = .active ∧ s.link.attempt = none ∧ s.link.alarmSlot = some alarm4)
      ∧ (let s := withLink { stateSlot := some goodState, ahead := 2, queue := [taken9] } (running .bay);
        Ready s ∧ s.link.attempt = none ∧ s.link.alarmSlot = none ∧ s.link.queue = taken9 :: [] ∧ s.link.ahead ≠ 3)
      ∧ (let s := withLink { stateSlot := some goodState, ahead := 3, queue := [taken9] } (running .bay);
        Ready s ∧ s.link.attempt = none ∧ s.link.alarmSlot = none ∧ s.link.stateSlot = some goodState
          ∧ s.link.ahead = 3)
      ∧ (let s := withLink { joinSlot := some (ownJoin (running .bay)) } (running .bay);
        Ready s ∧ s.link.alarmSlot = none ∧ s.link.stateSlot = none ∧ s.link.queue = []
          ∧ s.link.joinSlot = some (ownJoin (running .bay)))
      ∧ (Ready (running .bay) ∧ (running .bay).link = {}) := by decide +kernel

theorem witness_AttemptLostOrAborted :
    let a := stateAttempt (running .bay);
    (let s := withLink { attempt := some { a with replaced := true }, stateSlot := some goodState } (running .bay);
      Ready s ∧ s.link.attempt = some { a with replaced := true } ∧ isState a.frame = true)
      ∧ isKeyBit 1 = true ∧ drives a 1 = some true ∧ isKeyBit 7 = true ∧ drives a 2 = some false
      ∧ isKeyBit 8 = false ∧ drives a 9 = some true ∧ drives a 0 = some false
      ∧ (let s := withLink { attempt := some a, suspicion := 1 } (running .bay);
        Ready s ∧ s.link.attempt = some a ∧ s.link.suspicion < 2)
      ∧ (let s := { bound .run id with link := { attempt := some a, suspicion := 2 } };
        Ready s ∧ s.link.attempt = some a ∧ 2 ≤ s.link.suspicion ∧ s.link.state = .active
          ∧ contactorClosed s.engine.state = true)
      ∧ contactorClosed (running .bay).engine.state = false := by decide +kernel

theorem witness_CompletedFrameLeaves :
    (let a : Attempt := { frame := .alarm alarm4 }
      let s := withLink { attempt := some a, alarmSlot := some alarm4 } (running .bay)
      Ready s ∧ s.link.attempt = some a ∧ a.frame = .alarm alarm4)
      ∧ (let a : Attempt := { frame := .join (ownJoin (running .bay)), replaced := true }
        Ready (withLink { attempt := some a } (running .bay)) ∧ a.frame = .join (ownJoin (running .bay)))
      ∧ (let a : Attempt := { frame := .state goodState, underTest := true }
        Ready (withLink { attempt := some a, testRequest := true } (running .bay)) ∧ a.frame = .state goodState)
      ∧ (let a : Attempt := { frame := .handoff taken9 }
        let s := withLink { attempt := some a, queue := [taken9], stateSlot := some goodState, ahead := 2 } (running .bay)
        Ready s ∧ a.frame = .handoff taken9 ∧ s.link.queue = taken9 :: []) := by decide +kernel

theorem witness_ReceiveErrorsCounted :
    Ready (running .bay) ∧ (running .bay).link.attempt = none ∧ (7 : Byte).toNat < 8 ∧ 72 < (73 : Byte).toNat
      ∧ receipt (frameBytes (.alarm goodAlarm) true) = none
      ∧ frameOk (.alarm { goodAlarm with station := 32 }) = false
      ∧ (frameOk (.alarm alarm4) = true ∧ frameSender (.alarm alarm4) = (running .bay).cfg.station
        ∧ (running .bay).link.state = .active)
      ∧ (let s := withLink { state := .clashed, clashCause := .aborts } (running .bay)
        Ready s ∧ s.link.attempt = none ∧ s.link.state = .clashed)
      ∧ (let h : HandoffFrame := .taken ⟨{ head9 1 3 with destination := 5 }, false⟩
        receivedFrame (.takenReceived ⟨{ head9 1 3 with destination := 5 }, false⟩) = some (.handoff h)
          ∧ frameOk (.handoff h) = true ∧ (handoffHead h).destination ≠ (running .bay).cfg.station
          ∧ frameSender (.handoff h) ≠ (running .bay).cfg.station)
      ∧ (let f := { goodAlarm with station := 12 }
        receivedFrame (.alarmReceived f) = some (.alarm f) ∧ frameOk (.alarm f) = true
          ∧ ((running .bay).peer 12).admission ≠ .admitted)
      ∧ (let h : HandoffFrame := .taken ⟨{ head9 1 3 with station := 12 }, false⟩
        frameOk (.handoff h) = true ∧ frameSender (.handoff h) = 12
          ∧ (handoffHead h).destination = (running .bay).cfg.station) := by decide +kernel

theorem witness_StateTakenOrDiscarded :
    let s := running .bay
    Ready s ∧ s.link.attempt = none ∧ stateOk goodState = true ∧ goodState.station ≠ s.cfg.station
      ∧ (∀ x ∈ goodState.unheard, x.station ≠ s.cfg.station)
      ∧ (s.peer 9).admission = .admitted ∧ (s.peer 9).recordedEpoch = some goodState.epoch
      ∧ (s.peer 9).recordedRole = some goodState.role ∧ (s.peer 9).recordedZone = some goodState.zone
      ∧ (s.peer 9).recordedPeriod = some goodState.periodCode
      ∧ (s.peer 9).lastSequence = some 15 ∧ (goodState.sequence + 16 - 15) % 16 = 1
      ∧ (peer9.admission = .admitted ∧ { peer9 with lastSequence := none }.lastSequence = none)
      ∧ (after (.stateReceived goodState) s |>.peer 9).step = .inStep
      ∧ (after (.stateReceived goodState) (s.setPeer 9 { peer9 with step := .seeking }) |>.peer 9).step ≠ .inStep
      ∧ stateOk { goodState with echo := 65 } = true ∧ s.peers.holdOff = 0
      ∧ (stateOk { goodState with zone := 8 } = true ∧ (s.peer 9).recordedZone ≠ some 8)
      ∧ (stateOk { goodState with epoch := 2 } = true ∧ (s.peer 9).recordedEpoch ≠ some 2)
      ∧ (∀ r ∈ [UnheardReason.silent, .skipping, .unadmitted, .clash],
        stateOk { goodState with unheard := [⟨r, 4⟩] } = true)
      ∧ (s.peers.joinLimit = false ∧ s.peers.notHeardLimit = false ∧ s.peers.clashListedLimit = false)
      ∧ stateOk { goodState with station := 31 } = true ∧ (s.peer 31).admission ≠ .admitted := by decide +kernel

def join (id : UniqueId) (period : Nat) : JoinFrame := ⟨12, .pass, 3, period, 1, id⟩

def inMode (m : AdmissionMode) (w : Bool) : State :=
  let s := running .bay
  { s with peers := { s.peers with mode := m, windowOpen := w } }

theorem witness_JoinJudged :
    (∀ m ∈ [(.opened : AdmissionMode), .listed, .closed], ∀ w ∈ [true, false],
        Ready (inMode m w) ∧ (inMode m w).link.attempt = none ∧ ((inMode m w).peer 12).admission ≠ .admitted
          ∧ ((inMode m w).peer 12).recordedId = none ∧ (inMode m w).peers.mode = m
          ∧ (inMode m w).peers.windowOpen = w)
      ∧ joinOk (join 99 6) = true ∧ (join 99 6).periodCode ≠ (running .bay).cfg.periodCode
      ∧ joinOk (join 99 5) = true ∧ (99 : UniqueId) ∉ (running .bay).cfg.allowList
      ∧ (7 : UniqueId) ∈ (running .bay).cfg.allowList
      ∧ (let s := (running .bay).setPeer 12 { recordedId := some 5 }
        Ready s ∧ (s.peer 12).recordedId = some 5 ∧ (5 : UniqueId) ≠ 99)
      ∧ (let f : JoinFrame := ⟨9, .pass, 3, 5, 1, 9⟩
        let s := running .bay
        joinOk f = true ∧ (s.peer 9).admission = .admitted ∧ (s.peer 9).recordedId = some f.uniqueId
          ∧ (s.peer 9).recordedEpoch = some f.epoch ∧ (s.peer 9).recordedRole = some f.role
          ∧ (s.peer 9).recordedZone = some f.zone ∧ (s.peer 9).recordedPeriod = some f.periodCode)
      ∧ (joinOk ⟨9, .bay, 3, 5, 1, 9⟩ = true ∧ ((running .bay).peer 9).recordedRole ≠ some .bay)
      ∧ (joinOk ⟨9, .pass, 3, 5, 2, 9⟩ = true ∧ ((running .bay).peer 9).recordedEpoch ≠ some 2)
      ∧ ((running .bay).peer 9).recordedId ≠ some 8 := by decide +kernel

theorem witness_AlarmRaisesLevel :
    (let s := running .bay;
      Ready s ∧ s.link.attempt = none ∧ alarmOk goodAlarm = true ∧ goodAlarm.station ≠ s.cfg.station
        ∧ (s.peer 9).admission = .admitted ∧ goodAlarm.zone = s.cfg.zone
        ∧ (s.peer 9).recordedZone = some goodAlarm.zone ∧ realDetectors s = [])
      ∧ (goodAlarm.level = .alarmUnconfirmed ∧ levelRank (withLevel .prealarm (running .bay)).zone.level < 2
        ∧ Ready (withLevel .prealarm (running .bay)))
      ∧ (3 ≤ levelRank .alarmConfirmed ∧ levelRank (withLevel .alarmUnconfirmed (running .bay)).zone.level < 3
        ∧ isAlarm (withLevel .alarmUnconfirmed (running .bay)).zone.level = true
        ∧ Ready (withLevel .alarmUnconfirmed (running .bay)))
      ∧ alarmOk { goodAlarm with testFlag := true } = true ∧ alarmOk { goodAlarm with level := .prealarm } = true
      ∧ (alarmOk { goodAlarm with zone := 8 } = true ∧ ({ goodAlarm with zone := 8 } : AlarmFrame).zone ≠ 3)
      ∧ ((let s := (running .bay).setPeer 9 { peer9 with recordedZone := some 8 };
        Ready s ∧ (s.peer 9).recordedZone ≠ some goodAlarm.zone))
      ∧ (let s := withSet 1 (running .bay)
        Ready s ∧ 1 ∈ realDetectors s ∧ levelRank s.zone.level < 3)
      ∧ (Ready (withLevel .alarmConfirmed (running .bay))
        ∧ 3 ≤ levelRank (withLevel .alarmConfirmed (running .bay)).zone.level
        ∧ 2 ≤ levelRank (withLevel .alarmUnconfirmed (running .bay)).zone.level
        ∧ alarmOk { goodAlarm with level := .normal } = true) := by decide +kernel

def offer2 : OfferFrame := { head := head9 2 3, pack := { pack1 with residual := some 5832000 } }

def pass8 (k : Nat) (role : Role) : State :=
  holding ((List.range k).map (fun n => { record .held with id := BitVec.ofNat 48 (n + 10) })) (running role)

theorem witness_OfferAnswered :
    (Ready (running .pass) ∧ (running .pass).link.attempt = none ∧ handoffOk (.offer offer2) = true
        ∧ offer2.head.station ≠ 4 ∧ offer2.head.destination = (running .pass).cfg.station)
      ∧ (Ready (running .bay) ∧ (running .bay).cfg.role = .bay)
      ∧ ((running .pass).cfg.role ≠ .bay ∧ ((running .pass).peer 12).admission ≠ .admitted
        ∧ handoffOk (.offer { offer2 with head := { offer2.head with station := 12 } }) = true)
      ∧ (Ready (reserving [reservation2] (running .pass))
        ∧ repeatedReservation offer2.head (reserving [reservation2] (running .pass)) = some reservation2)
      ∧ (let s := holding [{ record .held with id := 2 }] (running .pass)
        Ready s ∧ repeatedReservation offer2.head s = none ∧ findRecord 2 s ≠ none)
      ∧ (Ready (pass8 8 .pass) ∧ repeatedReservation offer2.head (pass8 8 .pass) = none
        ∧ findRecord 2 (pass8 8 .pass) = none ∧ findReservation 2 (pass8 8 .pass) = none
        ∧ 8 ≤ entriesHeld (pass8 8 .pass))
      ∧ (Ready (withLevel .prealarm (pass8 7 .pass)) ∧ entriesHeld (withLevel .prealarm (pass8 7 .pass)) < 8
        ∧ findRecord 2 (withLevel .prealarm (pass8 7 .pass)) = none
        ∧ (withLevel .prealarm (pass8 7 .pass)).zone.level ≠ .normal)
      ∧ (Ready (running .chamber) ∧ (running .chamber).cfg.role = .chamber
        ∧ (running .chamber).zone.level = .normal ∧ atmosphereFeeds (running .chamber) = false
        ∧ marksAny { pack1.marks with hot := true } = true ∧ marksAny offer2.pack.marks = false)
      ∧ (let s := withAtm .watch (holding [{ record .held with data := { pack1 with residual := some 12168001 } }]
          (running .chamber))
        Ready s ∧ findRecord 2 s = none ∧ atmosphereFeeds s = true
          ∧ effectiveLimit s < min offer2.pack.eNom (offer2.pack.residual.getD offer2.pack.eNom)
            + heldSum s.store.records + reservedSum s.store.reservations)
      ∧ (let s := withAtm .watch (holding [{ record .held with data := { pack1 with residual := some 12168000 } }]
          (running .chamber))
        Ready s ∧ repeatedReservation offer2.head s = none ∧ findRecord 2 s = none ∧ findReservation 2 s = none
          ∧ entriesHeld s < 8 ∧ s.zone.level = .normal ∧ atmosphereFeeds s = true
          ∧ min offer2.pack.eNom (offer2.pack.residual.getD offer2.pack.eNom) + heldSum s.store.records
            + reservedSum s.store.reservations ≤ effectiveLimit s)
      ∧ (Ready (pass8 7 .pass) ∧ findRecord 2 (pass8 7 .pass) = none ∧ findReservation 2 (pass8 7 .pass) = none
        ∧ entriesHeld (pass8 7 .pass) < 8 ∧ (pass8 7 .pass).zone.level = .normal
        ∧ (pass8 7 .pass).cfg.role ≠ .bay) := by decide +kernel

def offered : State := holding [exchanged .offered] (running .bay)

def inTransit : State := holding [exchanged .inTransit] (running .bay)

theorem witness_GrantOrRefuseTaken :
    (Ready offered ∧ offered.link.attempt = none ∧ headOk (head9 1 3) = true ∧ (head9 1 3).station ≠ 4
        ∧ (head9 1 3).destination = offered.cfg.station ∧ (offered.peer 9).admission = .admitted)
      ∧ (fitsBytes 1 255 = true ∧ anyMatches (head9 1 3) .offered offered = true)
      ∧ (Ready inTransit ∧ anyMatches (head9 1 3) .offered inTransit = false
        ∧ anyMatches (head9 1 3) .inTransit inTransit = true)
      ∧ (headOk (head9 1 2) = true ∧ anyMatches (head9 1 2) .offered offered = false
        ∧ anyMatches (head9 1 2) .inTransit offered = false) := by decide +kernel

theorem witness_TakenReleasesRecord :
    (∀ st ∈ [(.inTransit : RecordState), .halted, .adrift], let s := holding [exchanged st] (running .bay)
        Ready s ∧ s.link.attempt = none ∧ headOk (head9 1 3) = true ∧ (head9 1 3).station ≠ s.cfg.station
          ∧ (head9 1 3).destination = s.cfg.station ∧ (s.peer 9).admission = .admitted
          ∧ findRecord 1 s = some (exchanged st))
      ∧ (∀ st ∈ [(.held : RecordState), .feeding], let s := holding [record st] (running .chamber)
        Ready s ∧ findRecord 1 s = some (record st) ∧ ¬(st = .inTransit ∨ st = .halted ∨ st = .adrift))
      ∧ findRecord 1 (running .bay) = none := by decide +kernel

theorem witness_CancelTaken :
    (let s := reserving [reservation2] (running .pass);
      Ready s ∧ s.link.attempt = none ∧ headOk (head9 2 3) = true ∧ (head9 2 3).station ≠ s.cfg.station
        ∧ (head9 2 3).destination = s.cfg.station ∧ (s.peer 9).admission = .admitted
        ∧ repeatedReservation (head9 2 3) s = some reservation2)
      ∧ (Ready offered ∧ anyMatches (head9 1 3) .offered offered = true
        ∧ anyMatches (head9 1 3) .inTransit offered = false ∧ repeatedReservation (head9 1 3) offered = none)
      ∧ (Ready inTransit ∧ anyMatches (head9 1 3) .offered inTransit = false
        ∧ anyMatches (head9 1 3) .inTransit inTransit = true ∧ repeatedReservation (head9 1 3) inTransit = none)
      ∧ findRecord 1 inTransit = some (exchanged .inTransit)
      ∧ (let s := holding [record .feeding] (running .chamber)
        Ready s ∧ s.link.attempt = none ∧ (head9 1 3).station ≠ s.cfg.station ∧ (head9 1 3).destination = s.cfg.station
          ∧ (s.peer 9).admission = .admitted ∧ findRecord 1 s = some (record .feeding)) := by
  decide +kernel

/-- CANCELs that find nothing: no record; another offer number; a state the reason does not name; only the other of record and
reservation. -/
theorem witness_CancelTaken_nothing :
    (∀ c ∈ [(.abort : CancelReason), .alarm, .lapsed, .disputed, .peerRestart],
        ¬CancelFinds (head9 1 3) c (running .bay))
      ∧ (∀ c ∈ [(.abort : CancelReason), .alarm, .lapsed, .peerRestart], ¬CancelFinds (head9 1 2) c offered
        ∧ ¬CancelFinds (head9 1 3) c (holding [exchanged .halted] (running .bay)))
      ∧ ¬CancelFinds (head9 1 3) .abort offered
      ∧ Ready (reserving [reservation2] (running .pass))
      ∧ (∀ c ∈ [(.alarm : CancelReason), .lapsed, .disputed],
        ¬CancelFinds (head9 2 3) c (reserving [reservation2] (running .pass)))
      ∧ CancelFinds (head9 1 3) .lapsed inTransit :=
  ⟨by decide +kernel, by decide +kernel, by decide +kernel, by decide +kernel, by decide +kernel, by decide +kernel⟩

theorem witness_PeriodTimerCounts :
    (Ready (running .bay) ∧ (running .bay).peers.periodTimer = true ∧ (running .bay).start.phase = .running
        ∧ (running .bay).link.state = .active ∧ stationOk 31 = true)
      ∧ ∀ k ∈ [0, 1, 2], let s := { running .bay with
          start := { phase := .listening }, peers := { periodTimer := true, periodCount := k } }
        Ready s ∧ s.start.phase = .listening ∧ s.link.state = .active ∧ s.peers.periodTimer = true := by decide +kernel

/-- The examination for an offer makes one, of the oldest READY record to the default destination (R63 to R65). -/
theorem witness_Offers : Offers (holding [record .ready] (running .bay)) (record .ready) 9 where
  oldest := by decide +kernel
  alone := by decide +kernel
  level := by decide +kernel
  link := by decide +kernel
  backOff := by decide +kernel
  destination := by decide +kernel
  available := by decide +kernel

theorem witness_SilenceRecordsMiss :
    (Ready (running .bay) ∧ stationOk 9 = true ∧ ((running .bay).peer 9).silenceTimer ≠ none
        ∧ ((running .bay).peer 9).admission = .admitted)
      ∧ (let s := (running .bay).setPeer 31 { heard := true, silenceTimer := some 3 }
        Ready s ∧ stationOk 31 = true ∧ (s.peer 31).silenceTimer ≠ none ∧ (s.peer 31).admission ≠ .admitted) := by
  decide +kernel

theorem witness_SampleSetsTaken :
    Ready (running .bay) ∧ (running .bay).bank.sampleTimer = true ∧ (running .bay).bank.arrived = none
      ∧ (running .bay).cfg.role = .bay
      ∧ (let s := running .chamber
        let t := { s with bank := { s.bank with arrived := some {}, missing := 3 } }
        Ready t ∧ t.bank.sampleTimer = true ∧ t.bank.arrived = some {} ∧ t.cfg.role = .chamber)
      ∧ (let body : List Byte := 0xA5 :: List.replicate 20 0
        let bs := body ++ beBytes 2 (frameCheck body).toNat
        bs.length = 23 ∧ field bs 0 1 = 0xA5 ∧ field bs 21 2 = (frameCheck (bs.take 21)).toNat)
      ∧ channelUsed .bay 7 = false ∧ channelUsed .chamber 5 = false := by decide +kernel

theorem witness_FilterCounts :
    ({ enabled := true, countA := 1, countB := 1 } : ChannelSettings).enabled = true
      ∧ 1 ≤ ({ enabled := true, countA := 1, countB := 1 } : ChannelSettings).countA
      ∧ 0 < ({ enabled := true, countA := 1, countB := 1 } : ChannelSettings).countB
      ∧ ({} : ChannelSettings).enabled = false := by decide

theorem witness_RampMovesOneStep :
    (let s := bound .ramp (fun e => { e with rampCount := 2, target := 63, present := 62 });
      quietLoss s = true ∧ stepping s.engine.state = true ∧ s.cfg.rampInterval ≤ s.engine.rampCount
        ∧ s.engine.present < 63)
      ∧ (let s := bound .run (fun e => { e with rampCount := 2, target := 63, present := 63 });
        quietLoss s = true ∧ stepping s.engine.state = true ∧ s.engine.present = s.engine.target)
      ∧ (let s := bound .unload (fun e => { e with rampCount := 2, present := 1 });
        quietLoss s = true ∧ stepping s.engine.state = true ∧ 0 < s.engine.present ∧ 0 + 1 = s.engine.present) := by
  decide +kernel

theorem witness_EngineFaultsTaken :
    (∀ st ∈ [(.connect : EngineState), .ramp, .run, .rest, .isolate, .fault, .idle],
        (bound st (fun e => { e with lossDue := true })).engine.lossDue = true)
      ∧ (let s := bound .unload (fun e => { e with lossDue := true, purpose := some .rest })
        s.engine.lossDue = true ∧ s.engine.state = .unload ∧ s.engine.purpose = some .rest)
      ∧ (let s := bound .ramp (fun e => { e with settleTimer := some 0 })
        quietStuck s = true ∧ s.engine.state = .ramp ∧ s.engine.settleTimer = some 0)
      ∧ (let s := bound .rest (fun e => { e with restRun := 20 })
        quietUnload s = true ∧ s.engine.state = .rest ∧ s.cfg.settleCount ≤ s.engine.restRun)
      ∧ (let s := bound .unload (fun e => { e with unloadCount := 227 })
        quietRestCurrent s = true ∧ s.engine.state = .unload
          ∧ 63 * s.cfg.rampInterval + s.cfg.settleTimeout < s.engine.unloadCount) := by decide +kernel

theorem witness_UnloadEndsByPurpose :
    ∀ p ∈ [UnloadPurpose.rest, .handBack .stopped, .fault .measurementLost],
      let s := bound .unload (fun e => { e with zeroRun := 20, purpose := some p })
      quietRamp s = true ∧ s.engine.state = .unload ∧ s.cfg.settleCount ≤ s.engine.zeroRun
        ∧ s.engine.purpose = some p ∧ s.engine.bound = some 1 ∧ findRecord 1 s = some (record .discharging)
        ∧ s.cfg.role = .bay := by decide +kernel

def checking (st : EngineState) (m : Reading) (status : MeasureStatus) : State :=
  bound st (fun e => { e with checkTimer := some 0, lastValid := some m, status := status })

theorem witness_ContactorChecked :
    (∀ m ∈ [(⟨38400, 50, 300⟩ : Reading), ⟨-1, 49, 300⟩, ⟨0, 0, 300⟩, ⟨41290, 0, 300⟩, ⟨38400, -49, 300⟩],
        let s := checking .connect m .valid
        quietRest s = true ∧ s.engine.checkTimer = some 0 ∧ s.engine.bound = some 1
          ∧ findRecord 1 s = some (record .discharging) ∧ s.engine.lastValid = some m ∧ s.engine.state = .connect)
      ∧ (let s := checking .connect ⟨38400, -49, 300⟩ .valid
        (⟨38400, -49, 300⟩ : Reading).i.natAbs < s.cfg.zeroThreshold
          ∧ (curveOf s 0).cellMin ≤ cellVoltage 38400 96 ∧ cellVoltage 38400 96 ≤ (curveOf s 0).cellMax
          ∧ cellVoltage 0 96 < (curveOf s 0).cellMin ∧ (curveOf s 0).cellMax < cellVoltage 41290 96)
      ∧ (let s := checking .isolate ⟨38400, 49, 300⟩ .held
        quietRest s = true ∧ s.engine.state = .isolate ∧ s.engine.status ≠ .lost)
      ∧ (let s := checking .isolate ⟨38400, 50, 300⟩ .valid
        quietRest s = true ∧ s.engine.state = .isolate ∧ s.cfg.zeroThreshold ≤ (50 : Int).natAbs)
      ∧ (let s := checking .isolate ⟨38400, 0, 300⟩ .lost
        quietRest s = true ∧ s.engine.state = .isolate ∧ s.engine.status = .lost ∧ levelRank s.zone.level < 3)
      ∧ (let s := withLevel .alarmConfirmed (checking .isolate ⟨38400, 0, 300⟩ .lost)
        quietRest s = true ∧ 3 ≤ levelRank s.zone.level) := by decide +kernel

theorem witness_TargetCurrentIsLeastCap :
    channelOut (withSet 5 (running .bay)) 5 = true ∧ channelOut (running .bay) 5 = false
      ∧ (withLevel .prealarm (running .bay)).zone.level = .prealarm ∧ (running .bay).zone.level ≠ .prealarm
      ∧ 0 < (running .bay).cfg.stepCurrent ∧ targetStep (running .bay) 4000 < 63
      ∧ 100 ≤ (running .bay).cfg.iBay / 2 ∧ 100 ≤ pack1.iPack := by decide +kernel

def resting (m : Reading) (rounds : Nat) : State :=
  let s := bound .rest (fun e => { e with restTimer := some 0, lastValid := some m })
  holding [{ record .discharging with data := { pack1 with rounds := rounds } }] s

theorem witness_RestEndsByReleaseTest :
    (∀ x ∈ [((⟨29280, 0, 300⟩ : Reading), 3), (⟨32160, 0, 300⟩, 2), (⟨32160, 0, 300⟩, 3), (⟨-1, 0, 300⟩, 2),
          (⟨-1, 0, 300⟩, 3)],
        let s := resting x.1 x.2
        quietSettle s = true ∧ s.engine.state = .rest ∧ s.engine.restTimer = some 0 ∧ s.engine.bound = some 1
          ∧ (findRecord 1 s).map (fun r => r.data.rounds) = some x.2 ∧ s.engine.lastValid = some x.1)
      ∧ (computeFigures (running .bay) 29280 pack1).outcome = .pass
      ∧ (computeFigures (running .bay) 32160 pack1).outcome ≠ .pass := by decide +kernel

theorem witness_ResidualArithmetic :
    (0 : Int) ≤ 0 ∧ cellVoltage 6553 1 < 65535 ∧ curve0.knots.head? = some (2500, 0)
      ∧ curve0.knots.getLast? = some (4200, 1000)
      ∧ knotsRise ([] ++ (2500, 0) :: (3000, 20) :: curve0.knots.drop 2) = true
      ∧ 0 < voltageEstimate 1 1 ∧ residualOf 5 (some 6) = (6, .counted)
      ∧ (running .bay).cfg.curves[pack1.chemistry]? = some curve0 ∧ knotsRise curve0.knots = true
      ∧ (∀ x ∈ curve0.knots, x.2 ≤ 1000) ∧ pack1.eDecl.all (fun e => decide (e ≤ pack1.eNom)) = true := by
  decide +kernel

theorem witness_IntegrationIsExact :
    pack1.eDis ≤ 4294967295 ∧ pack1.eDisRem ≤ 999999
      ∧ 4294967295 * 1000000 + 999998 + 1 < 4294967296 * 1000000
      ∧ 4294967296 * 1000000 ≤ 4294967295 * 1000000 + 999999 + 1 := by decide +kernel

theorem witness_StoreTimersExpire :
    (∀ k ∈ [2, 3], let r := { exchanged .offered with sendCount := k }
        let s := holding [r] (running .bay)
        Ready s ∧ findRecord 1 s = some r ∧ r.state = .offered ∧ r.offerTimer.isSome = true
          ∧ r.destination = some 9 ∧ stationOk 9 = true)
      ∧ (let r := { record .ready with backOff := some 10 }
        Ready (holding [r] (running .bay)) ∧ findRecord 1 (holding [r] (running .bay)) = some r
          ∧ r.backOff.isSome = true)
      ∧ (Ready inTransit ∧ findRecord 1 inTransit = some (exchanged .inTransit)
        ∧ (exchanged .inTransit).transitTimer.isSome = true)
      ∧ (let s := reserving [reservation2] (running .pass)
        Ready s ∧ findReservation 2 s = some reservation2 ∧ reservation2.holdTimer.isSome = true) := by decide +kernel

def chamber (st : AtmState) (attempts : Nat) : State :=
  let s := withAtm st (running .chamber)
  { s with atm := { s.atm with attempts := attempts, purgeTimer := if st = .purging then some 120 else none } }

theorem witness_PurgeAttempts :
    (∀ st ∈ [(.opened : AtmState), .trip], let s := withSet 7 (chamber st 0)
        Ready s ∧ s.cfg.role = .chamber ∧ s.atm.state = st ∧ channelOut s 7 = true ∧ bothSuppliesLow s = false)
      ∧ (∀ st ∈ [(.inert : AtmState), .watch, .opened], Ready (chamber st 0) ∧ (chamber st 0).atm.state = st
        ∧ channelOut (chamber st 0) 7 = false)
      ∧ (let s := withSet 7 (withSet 14 (withSet 15 (chamber .trip 0)))
        Ready s ∧ channelOut s 7 = true ∧ bothSuppliesLow s = true)
      ∧ (running .bay).cfg.role ≠ .chamber
      ∧ (∀ k ∈ [2, 3], Ready (chamber .purging k) ∧ (chamber .purging k).atm.state = .purging
        ∧ (chamber .purging k).atm.purgeTimer.isSome = true ∧ (chamber .purging k).atm.attempts = k) := by
  decide +kernel

/-- The parts of a sample timer expiry each meet a state where they act: the Zone Unit raises by a real detector, ends a
test flag, lets a PREALARM fall and counts down; a member rises; the Atmosphere Unit sees the door, both supplies, a purge
done, a trip, a watch and its end; the engine takes PACK STOP, a fresh sample in RUN, and enters RUN. -/
theorem witness_SampleSetsTaken_parts :
    (let s := withSet 1 (running .bay);
      demanded s = .alarmUnconfirmed ∧ levelRank s.zone.level < levelRank (demanded { s with
        zone := { s.zone with strictInForce := true } }))
      ∧ (let s := withSet 1 (withLevel .prealarm (running .bay))
        let t := { s with zone := { s.zone with testFlag := true, strictInForce := false } }
        demanded t = .prealarm ∧ levelRank (demanded t) ≤ levelRank t.zone.level ∧ 1 ∈ realDetectors t)
      ∧ (let s := withLevel .prealarm (running .bay)
        s.zone.level = .prealarm ∧ setDetectors s = [])
      ∧ (let s := withLevel .countdown (running .bay)
        s.zone.level = .countdown ∧ channelOut s 8 = false)
      ∧ (let s := (running .bay).setPeer 9 { peer9 with published := some { level := .alarmUnconfirmed } }
        levelRank (at1 .normal s.zone.taken 9) < levelRank (s.peer 9).effectiveLevel ∧ isMember s 9 = true)
      ∧ (let s := chamber .inert 0
        channelOut s 7 = false ∧ s.atm.state ≠ .opened ∧ tripCondition (withSet 7 s) = some .sensorLoss)
      ∧ (let s := withSet 14 (withSet 15 (chamber .purging 1))
        channelOut s 14 = true ∧ channelOut s 15 = true ∧ s.atm.state = .purging)
      ∧ (let s := withSet 7 (withSet 10 (chamber .purging 1))
        let t := { s with atm := { s.atm with healthyA := true } }
        channelOut t 10 = true ∧ t.atm.healthyA = true ∧ tripCondition t = none ∧ watchCondition t = some .sensor)
      ∧ (let s := chamber .watch 0
        let t := { s with atm := { s.atm with healthyA := true, healthyB := true } }
        tripCondition t = none ∧ watchCondition t = none ∧ t.atm.state = .watch)
      ∧ (let s := withSet 6 (bound .run id)
        channelOut s 6 = true ∧ s.engine.state = .run ∧ s.engine.bound = some 1)
      ∧ (let s := bound .run (fun e => { e with present := 20, settleRun := 20 })
        findRecord 1 s = some (record .discharging) ∧ roundEnds ⟨29280, 2000, 300⟩ (record .discharging) s = true
          ∧ roundEnds ⟨29280, 2000, 300⟩ { record .discharging with data := { pack1 with eDecl := none } } s = false
          ∧ agrees 2000 s.engine.present s.cfg.stepCurrent = true ∧ agrees 2101 20 s.cfg.stepCurrent = false)
      ∧ (let s := bound .ramp (fun e => { e with present := 20, target := 20, settleRun := 20 })
        s.engine.state = .ramp ∧ s.cfg.settleCount ≤ s.engine.settleRun) := by decide +kernel

theorem witness_CountdownReleases :
    quietCheck countingDown = true ∧ countingDown.zone.level = .countdown ∧ countingDown.zone.endDue = true
      ∧ countingDown.link.state = .active := by decide +kernel

def queued (k : Nat) (s : State) : State :=
  { s with link := { s.link with queue := List.replicate k (.offer offer2) } }

theorem witness_RepliesAndEvents :
    (running .bay).port.pendingReply = none
      ∧ (replyDone 1 [] (running .bay)).port.pendingReply = some { code := .done, tag := 1 }
      ∧ (∀ k ∈ [7, 8], let s := queued k (running .bay)
        s.link.state = .active ∧ s.link.queue.length = k)
      ∧ (placeHandoff (.offer offer2) (queued 7 (running .bay))).link.queue.length = 8
      ∧ (placeHandoff (.offer offer2) (queued 8 (running .bay))).link.handoffOverruns = 1
      ∧ { (running .bay).link with state := .clashed }.state = .clashed := by decide +kernel

def eventsPending : State := after (.readEvents 7) (raise .zoneChange (running .bay))

theorem witness_TransfersAnswered :
    noneDue (running .bay) = true ∧ judgeEnvelope [3, 2, 9] = .length ∧ judgeEnvelope [5, 2, 9, 0, 240] = .length
      ∧ judgeEnvelope [4, 2, 9, 0] = .sum ∧ judgeEnvelope [4, 37, 9, 206] = .code ∧ judgeEnvelope [0, 2] = .nothing
      ∧ judgeEnvelope [] = .nothing
      ∧ noneDue eventsPending = true
      ∧ (eventsPending.port.pendingReply.map (fun r => r.returned.isSome)) = some true
      ∧ (replyCopy eventsPending.port).length = 33
      ∧ ((replyDone 1 [] (running .bay)).port.pendingReply.map (fun r => r.returned)) = some none := by decide +kernel

theorem witness_TestsAndMasks :
    Ready (running .bay) ∧ (running .bay).link.state = .active
      ∧ (let s := withLink { state := .clashed, clashCause := .aborts } (running .bay)
        Ready s ∧ s.link.state = .clashed)
      ∧ (17 : Byte).toNat = 17 ∧ 4 < (5 : Byte).toNat
      ∧ (let s := withSet 9 (running .bay)
        Ready s ∧ channelOut s 9 = true ∧ channelUsed s.cfg.role 16 = true ∧ channelUsed s.cfg.role 11 = false
          ∧ detectorKind s 4 = .absent ∧ detectorKind s 1 ≠ .absent ∧ at1 false s.bank.detectorFault 1 = false
          ∧ (channelAt s 1).force = false ∧ channelOut s 1 = false) := by decide +kernel

theorem witness_AdmissionModeTaken :
    Ready (running .bay) ∧ 3 ≤ (3 : Byte).toNat ∧ channelOut (running .bay) 9 = false
      ∧ Ready (withSet 9 (running .bay)) ∧ channelOut (withSet 9 (running .bay)) 9 = true
      ∧ ((withSet 9 (running .bay)).peer 9).admission = .admitted
      ∧ (withSet 9 (running .bay)).cfg.allowList = [7] ∧ ((withSet 9 (running .bay)).peer 9).recordedId = some 9 := by
  decide +kernel

def params (id : PackId) (grade : Byte) : AdmitParams := ⟨id, 0, 96, 216000000, 1, 216000001, 40001, grade⟩

theorem witness_PackAdmitted :
    (running .pass).cfg.role ≠ .bay
      ∧ (Ready (running .bay) ∧ admitOk { params 2 0 with chemistry := 3 } (running .bay) = false
        ∧ admitOk (params 2 3) (running .bay) = true ∧ findRecord 2 (running .bay) = none
        ∧ findReservation 2 (running .bay) = none ∧ entriesHeld (running .bay) < 8)
      ∧ (let s := holding [record .held] (running .bay)
        Ready s ∧ admitOk (params 1 0) s = true ∧ findRecord 1 s ≠ none)
      ∧ (Ready (pass8 8 .bay) ∧ admitOk (params 1 0) (pass8 8 .bay) = true ∧ findRecord 1 (pass8 8 .bay) = none
        ∧ 8 ≤ entriesHeld (pass8 8 .bay) ∧ entriesHeld (pass8 7 .bay) < 8) := by decide +kernel

theorem witness_RecordRequests :
    (∀ st ∈ [RecordState.held, .discharging, .ready, .offered, .inTransit, .halted, .adrift, .feeding],
        let s := holding [exchanged st] (running .pass)
        Ready s ∧ s.cfg.role = .pass ∧ findRecord 1 s = some (exchanged st))
      ∧ findRecord 1 (running .pass) = none ∧ (running .bay).cfg.role ≠ .pass
      ∧ (findReservation 2 (reserving [reservation2] (running .pass))).isSome = true := by decide +kernel

theorem witness_ArrivalTaken :
    31 < (32 : Byte).toNat ∧ (31 : Byte).toNat ≤ 31 ∧ (running .bay).cfg.role = .bay
      ∧ (let s := holding [record .held] (running .chamber)
        Ready s ∧ s.cfg.role ≠ .bay ∧ findRecord 1 s ≠ none)
      ∧ (let s := reserving [reservation2] (running .chamber)
        Ready s ∧ findRecord 2 s = none ∧ findReservation 2 s = some reservation2)
      ∧ (∀ k ∈ [15, 16], Ready (pass8 k .pass) ∧ findRecord 2 (pass8 k .pass) = none
        ∧ findReservation 2 (pass8 k .pass) = none ∧ entriesHeld (pass8 k .pass) = k) := by decide +kernel

theorem witness_StartBindsOldest :
    (running .pass).cfg.role ≠ .bay
      ∧ (let s := { running .bay with start := { phase := .listening } }
        Ready s ∧ s.start.phase = .listening)
      ∧ (∀ st ∈ [EngineState.connect, .ramp, .run, .unload, .rest, .isolate], Ready (bound st id)
        ∧ startBusy (bound st id).engine.state = true)
      ∧ (Ready (withLevel .alarmUnconfirmed (running .bay)) ∧ startBusy (running .bay).engine.state = false
        ∧ isAlarm (withLevel .alarmUnconfirmed (running .bay)).zone.level = true)
      ∧ (running .bay).engine.status = .lost
      ∧ (Ready (withSet 6 atWork) ∧ (withSet 6 atWork).engine.status ≠ .lost ∧ channelOut (withSet 6 atWork) 6 = true)
      ∧ (Ready atWork ∧ atWork.cfg.role = .bay ∧ atWork.start.phase = .running ∧ isAlarm atWork.zone.level = false
        ∧ atWork.link.state = .active ∧ channelOut atWork 6 = false ∧ atWork.engine.state = .idle
        ∧ atWork.store.records = [] ++ record .held :: [] ∧ (record .held).state = .held
        ∧ marksAny (record .held).data.marks = false ∧ atWork.cfg.stepCurrent ≤ (record .held).data.iPack)
      ∧ (Ready (bound .fault id) ∧ (bound .fault id).engine.state = .fault
        ∧ (handBack (bound .fault id)).store.records = [] ++ record .held :: []) := by decide +kernel

theorem witness_StopHandsBack :
    (running .pass).cfg.role ≠ .bay
      ∧ (∀ st ∈ [EngineState.connect, .ramp, .run, .rest, .isolate, .fault], Ready (bound st id)
        ∧ (bound st id).cfg.role = .bay ∧ (bound st id).engine.state = st
        ∧ (bound st id).engine.bound = some 1 ∧ findRecord 1 (bound st id) = some (record .discharging))
      ∧ (∀ p ∈ [UnloadPurpose.rest, .fault .polarity], let s := bound .unload (fun e => { e with purpose := some p })
        Ready s ∧ s.engine.state = .unload ∧ s.engine.purpose = some p)
      ∧ (Ready (running .bay) ∧ (running .bay).engine.state = .idle) := by decide +kernel

theorem witness_FeedingRequests :
    (running .pass).cfg.role ≠ .chamber
      ∧ (let s := { running .chamber with start := { phase := .listening } }
        Ready s ∧ s.start.phase = .listening)
      ∧ (let s := withLink { state := .clashed, clashCause := .aborts } (running .chamber)
        Ready s ∧ s.link.state = .clashed)
      ∧ (let s := holding [record .feeding] (withAtm .inert (running .chamber))
        Ready s ∧ feedingRecord s = some (record .feeding) ∧ findRecord 1 s = some (record .feeding)
          ∧ (record .feeding).state = .feeding)
      ∧ (feedingRecord (running .chamber) = none ∧ oldestHeld (running .chamber) = none)
      ∧ (let r := { record .held with data := { pack1 with marks := { untracked := true } } }
        let s := holding [r] (running .chamber)
        Ready s ∧ feedingRecord s = none ∧ oldestHeld s = some r ∧ marksAny r.data.marks = true)
      ∧ (∀ st ∈ [AtmState.opened, .inert], let s := holding [record .held] (withAtm st (running .chamber))
        Ready s ∧ feedingRecord s = none ∧ oldestHeld s = some (record .held)
          ∧ marksAny (record .held).data.marks = false ∧ atmosphereFeeds s = decide (st = .inert)
          ∧ s.zone.level = .normal ∧ (record .held).state ≠ .feeding)
      ∧ (findRecord 2 (running .chamber) = none ∧ findReservation 2 (running .chamber) = none
        ∧ findReservation 2 (reserving [reservation2] (running .chamber)) ≠ none) := by decide +kernel

def lotOf (k : Nat) : Lot := { number := 11, packs := List.replicate k 1 }

theorem witness_LotTakesPack :
    (∀ k ∈ [46, 47], let s := { running .chamber with tally := { openLot := some (lotOf k) } }
        Ready s ∧ s.cfg.role = .chamber ∧ s.tally.openLot = some (lotOf k) ∧ (lotOf k).packs.length = k)
      ∧ (Ready (running .chamber) ∧ (running .chamber).tally.openLot = none
        ∧ isAlarm (running .chamber).zone.level = false ∧ (running .chamber).atm.state ≠ .trip)
      ∧ isAlarm (withLevel .released (running .chamber)).zone.level = true
      ∧ (withAtm .trip (running .chamber)).atm.state = .trip ∧ (running .bay).cfg.role ≠ .chamber := by decide +kernel

theorem witness_StrictSources :
    Ready (running .bay) ∧ (running .bay).bank.sampleTimer = true
      ∧ (Ready (running .pass) ∧ (running .pass).bank.sampleTimer = true ∧ (running .pass).cfg.role ≠ .bay)
      ∧ (let s := holding [record .feeding] (withAtm .inert (running .chamber))
        Ready s ∧ s.cfg.role = .chamber ∧ findRecord 1 s = some (record .feeding)
          ∧ (record .feeding).state = .feeding) := by decide +kernel

theorem witness_ZoneRequestsTaken :
    (∀ l ∈ [ZoneLevel.normal, .prealarm, .alarmUnconfirmed, .countdown, .released],
        Ready (withLevel l (running .bay)) ∧ (withLevel l (running .bay)).zone.level = l
          ∧ (withLevel l (running .bay)).zone.isolationLatch = false
          ∧ ∀ n ∈ [1, 2, 3, 4], channelOut (withLevel l (running .bay)) n = false)
      ∧ (let s := withSet 4 (withLevel .alarmConfirmed (running .bay))
        Ready s ∧ 2 ≤ levelRank s.zone.level ∧ channelOut s 4 = true)
      ∧ (let s0 := withLevel .alarmConfirmed ((running .bay).setPeer 9 { peer9 with published := some { level := .released } })
        let s := { s0 with zone := { s0.zone with cause := some .peer } }
        Ready s ∧ stationOk 9 = true ∧ isMember s 9 = true ∧ (s.peer 9).admission = .admitted
          ∧ (s.peer 9).step = .inStep ∧ isAlarm (s.peer 9).effectiveLevel = true ∧ s.zone.cause = some .peer)
      ∧ (let s := withSet 9 (withLevel .released (running .bay))
        Ready s ∧ s.zone.level = .released ∧ channelOut s 9 = true)
      ∧ (let s := withSet 9 (withSet 1 (withLevel .released (running .bay)))
        Ready s ∧ channelOut s 1 = true ∧ channelOut s 9 = true)
      ∧ (let s0 := withLevel .alarmConfirmed (running .bay)
        let s := { s0 with zone := { s0.zone with isolationLatch := true } }
        Ready s ∧ s.zone.isolationLatch = true) := by decide +kernel

theorem witness_ReadsAnswered :
    Ready (running .chamber) ∧ (4 : Byte).toNat = (running .chamber).cfg.station ∧ 31 < (32 : Byte).toNat
      ∧ findRecord 1 (holding [record .held] (running .bay)) = some (record .held)
      ∧ (findRecord 2 (reserving [reservation2] (running .pass)) = none
        ∧ findReservation 2 (reserving [reservation2] (running .pass)) = some reservation2)
      ∧ findRecord 1 (running .bay) = none ∧ findReservation 1 (running .bay) = none
      ∧ (chamber .purging 1).atm.purgeTimer = some 120 ∧ (running .chamber).atm.purgeTimer = none
      ∧ (let s := { running .chamber with tally := { openLot := some (lotOf 1), closedLots := [{ lotOf 2 with number := 10 }] } }
        Ready s ∧ s.tally.openLot = some (lotOf 1)
          ∧ s.tally.openLot.toList ++ s.tally.closedLots = [lotOf 1] ++ { lotOf 2 with number := 10 } :: []
          ∧ (∀ x ∈ [lotOf 1], x.number ≠ (10 : BitVec 16).toNat)
          ∧ ∀ l ∈ s.tally.openLot.toList ++ s.tally.closedLots, l.number ≠ (9 : BitVec 16).toNat)
      ∧ noneDue halted = true ∧ halted.port.pendingReply = none := by decide +kernel

end Sys2Proof.Tests
end

section
/-! PROOF. The filter of a channel (R48 to R50): one equation for each filter state, then the run of equal inputs. -/

namespace Sys2Proof.Machine

open Sys2Proof

/-! ## One evaluation -/

/-- R50: without its filter a channel takes its input, whatever its state was. -/
theorem nextPhase_disabled {c : ChannelSettings} (h : c.enabled = false) (input : Bool) (p : FilterPhase) :
    nextPhase c input p = if input then .set else .clear := by
  simp [nextPhase, h]

section Enabled

variable {c : ChannelSettings} (h : c.enabled = true)
include h

theorem nextPhase_clear (input : Bool) :
    nextPhase c input .clear = if input then (if c.countA ≤ 1 then .set else .asserting 1) else .clear := by
  simp [nextPhase, h]

theorem nextPhase_asserting (input : Bool) (k : Nat) :
    nextPhase c input (.asserting k)
      = if input then (if c.countA ≤ k + 1 then .set else .asserting (k + 1)) else .clear := by
  simp [nextPhase, h]

theorem nextPhase_set (input : Bool) :
    nextPhase c input .set = if input then .set else if c.countB ≤ 1 then .clear else .clearing 1 := by
  simp [nextPhase, h]

theorem nextPhase_clearing (input : Bool) (k : Nat) :
    nextPhase c input (.clearing k)
      = if input then .set else if c.countB ≤ k + 1 then .clear else .clearing (k + 1) := by
  simp [nextPhase, h]

end Enabled

/-! ## A run of equal inputs -/

/-- The filter state of an enabled channel `k` true inputs after CLEAR, while `k` is below the A-count. -/
def assertingRun : Nat → FilterPhase
  | 0 => .clear
  | k + 1 => .asserting (k + 1)

/-- The filter state of an enabled channel `k` false inputs after SET, while `k` is below the B-count. -/
def clearingRun : Nat → FilterPhase
  | 0 => .set
  | k + 1 => .clearing (k + 1)

theorem nextPhase_assertingRun {c : ChannelSettings} (h : c.enabled = true) (k : Nat) :
    nextPhase c true (assertingRun k) = if c.countA ≤ k + 1 then .set else assertingRun (k + 1) := by
  cases k with
  | zero => exact nextPhase_clear h true
  | succ k => exact nextPhase_asserting h true (k + 1)

theorem nextPhase_clearingRun {c : ChannelSettings} (h : c.enabled = true) (k : Nat) :
    nextPhase c false (clearingRun k) = if c.countB ≤ k + 1 then .clear else clearingRun (k + 1) := by
  cases k with
  | zero => exact nextPhase_set h false
  | succ k => exact nextPhase_clearing h false (k + 1)

/-- The output does not change in ASSERTING (R48). -/
theorem output_assertingRun {x : Channel} {k : Nat} (h : x.phase = assertingRun k) : x.output = false := by
  cases k <;> simp [Channel.output, h, assertingRun]

/-- The output does not change in CLEARING (R49). -/
theorem output_clearingRun {x : Channel} {k : Nat} (h : x.phase = clearingRun k) : x.output = true := by
  cases k <;> simp [Channel.output, h, clearingRun]

section Run

variable {c : ChannelSettings} {input : Bool} {n : Nat} {last : FilterPhase} {run : Nat → FilterPhase}
  (hrun : ∀ k, nextPhase c input (run k) = if n ≤ k + 1 then last else run (k + 1))
include hrun

theorem foldl_replicate_below {m : Nat} (hm : m < n) :
    (List.replicate m input).foldl (fun p i => nextPhase c i p) (run 0) = run m := by
  induction m with
  | zero => rfl
  | succ m ih =>
    rw [List.replicate_succ', List.foldl_concat, ih (by omega), hrun, if_neg (by omega)]

theorem foldl_replicate_turns (hn : 1 ≤ n) :
    (List.replicate n input).foldl (fun p i => nextPhase c i p) (run 0) = last := by
  obtain ⟨m, rfl⟩ : ∃ m, n = m + 1 := ⟨n - 1, by omega⟩
  rw [List.replicate_succ', List.foldl_concat, foldl_replicate_below hrun m.lt_succ_self, hrun, if_pos le_rfl]

end Run

/-- Settles O35: the equations of one evaluation, and the runs counted by `assertingRun` and `clearingRun`. -/
theorem filterCounts : Obligations.FilterCounts := by
  intro c k
  refine ⟨fun h p => ⟨nextPhase_disabled h true p, nextPhase_disabled h false p⟩, fun h => ?_,
    fun h hA => ?asserted, fun h hB => ?cleared⟩
  · exact ⟨nextPhase_set h true, nextPhase_clear h false, nextPhase_clearing h true k, nextPhase_asserting h false k,
      nextPhase_clear h true, nextPhase_asserting h true k, nextPhase_set h false, nextPhase_clearing h false k⟩
  case asserted =>
    have hrun := nextPhase_assertingRun h
    exact ⟨foldl_replicate_turns hrun hA, fun m hm => output_assertingRun (foldl_replicate_below hrun hm)⟩
  case cleared =>
    have hrun := nextPhase_clearingRun h
    exact ⟨foldl_replicate_turns hrun hB, fun m hm => output_clearingRun (foldl_replicate_below hrun hm)⟩

end Sys2Proof.Machine
end

section
/-! PROOF. The arithmetic of the Residual Unit (R116 to R122): the rounded quotients, the curve as a list of knots in
order, the segment a cell voltage falls in, and the computation that composes them. -/

namespace Sys2Proof.Machine

open Sys2Proof

/-! ## Quotients rounded up -/

theorem divUp_le_iff {a b c : Nat} (hb : 0 < b) : divUp a b ≤ c ↔ a ≤ c * b := by
  rw [divUp, ← Nat.ceilDiv_eq_add_pred_div, ceilDiv_le_iff_le_mul hb, Nat.mul_comm]

theorem le_divUp_mul (a : Nat) {b : Nat} (hb : 0 < b) : a ≤ divUp a b * b :=
  (divUp_le_iff hb).1 le_rfl

theorem divUp_pred_mul_lt {a b : Nat} (hb : 0 < b) (h : 0 < divUp a b) : (divUp a b - 1) * b < a :=
  lt_of_not_ge fun hle => absurd ((divUp_le_iff hb).2 hle) (by omega)

/-! ## The cell voltage (R116) -/

theorem cellVoltage_le (v : Int) (n : Nat) : cellVoltage v n ≤ 65535 := Nat.min_le_left ..

theorem cellVoltage_mul_le (v n : Nat) : cellVoltage v n * n ≤ v * 10 :=
  calc cellVoltage v n * n ≤ v * 10 / n * n := Nat.mul_le_mul_right n (Nat.min_le_right ..)
    _ ≤ v * 10 := Nat.div_mul_le_self ..

theorem lt_cellVoltage_succ_mul {v n : Nat} (hn : 1 ≤ n) (h : cellVoltage v n < 65535) :
    v * 10 < (cellVoltage v n + 1) * n := by
  have unsaturated : cellVoltage v n = v * 10 / n := by
    simp only [cellVoltage, Int.toNat_natCast] at h ⊢
    omega
  rw [unsaturated]
  exact Nat.lt_mul_of_div_lt (Nat.lt_succ_self _) hn

/-! ## Knots in order (R115) -/

/-- The order of two knots on a curve that rises: a greater voltage, and no smaller fraction. -/
def KnotBelow (a b : Nat × Nat) : Prop := a.1 < b.1 ∧ a.2 ≤ b.2

theorem KnotBelow.trans {a b c : Nat × Nat} (hab : KnotBelow a b) (hbc : KnotBelow b c) : KnotBelow a c :=
  ⟨hab.1.trans hbc.1, hab.2.trans hbc.2⟩

/-- `knotsRise` compares neighbours; the order then holds between any two knots. -/
theorem pairwise_of_knotsRise : ∀ {knots : List (Nat × Nat)}, knotsRise knots = true → knots.Pairwise KnotBelow
  | [], _ => .nil
  | [_], _ => List.pairwise_singleton ..
  | a :: b :: rest, h => by
    simp only [knotsRise, Bool.and_eq_true, decide_eq_true_eq] at h
    obtain ⟨hab, hrest⟩ := h
    have ih := pairwise_of_knotsRise hrest
    refine ih.cons fun x hx => ?_
    rcases List.mem_cons.1 hx with rfl | hx
    · exact hab
    · exact .trans hab (List.rel_of_pairwise_cons ih hx)

theorem first_le_knot {knots : List (Nat × Nat)} {a x : Nat × Nat} (hr : knots.Pairwise KnotBelow)
    (ha : knots.head? = some a) (hx : x ∈ knots) : a.1 ≤ x.1 ∧ a.2 ≤ x.2 := by
  obtain ⟨rest, rfl⟩ := List.head?_eq_some_iff.1 ha
  rcases List.mem_cons.1 hx with rfl | hx
  · exact ⟨le_rfl, le_rfl⟩
  · exact (List.rel_of_pairwise_cons hr hx).imp_left le_of_lt

theorem knot_le_last {knots : List (Nat × Nat)} {b x : Nat × Nat} (hr : knots.Pairwise KnotBelow)
    (hb : knots.getLast? = some b) (hx : x ∈ knots) : x.1 ≤ b.1 ∧ x.2 ≤ b.2 := by
  obtain ⟨front, rfl⟩ := List.getLast?_eq_some_iff.1 hb
  rcases List.mem_append.1 hx with hx | hx
  · exact ((List.pairwise_append.1 hr).2.2 x hx b (by simp)).imp_left le_of_lt
  · obtain rfl := List.mem_singleton.1 hx
    exact ⟨le_rfl, le_rfl⟩

/-! ## The segment of a cell voltage (R118) -/

/-- What the line from knot `a` to knot `b` adds to the fraction of `a` at a cell voltage, rounded up. -/
def lineRise (a b : Nat × Nat) (vc : Nat) : Nat := divUp ((b.2 - a.2) * (vc - a.1)) (b.1 - a.1)

theorem lineRise_le {a b : Nat × Nat} {vc : Nat} (ha : a.1 ≤ vc) (hb : vc < b.1) : lineRise a b vc ≤ b.2 - a.2 :=
  (divUp_le_iff (by omega)).2 (Nat.mul_le_mul_left _ (by omega))

theorem segmentFraction_here {a b : Nat × Nat} {vc : Nat} (k : Nat) (post : List (Nat × Nat)) (ha : a.1 ≤ vc)
    (hb : vc < b.1) : segmentFraction k (a :: b :: post) vc = some (k, a.2 + lineRise a b vc) :=
  if_pos ⟨ha, hb⟩

theorem segmentFraction_later {x y : Nat × Nat} {rest : List (Nat × Nat)} {vc : Nat} (k : Nat)
    (hy : rest.head? = some y) (hle : y.1 ≤ vc) :
    segmentFraction k (x :: rest) vc = segmentFraction (k + 1) rest vc := by
  obtain ⟨tail, rfl⟩ := List.head?_eq_some_iff.1 hy
  exact if_neg (by omega)

/-- Every knot before the segment has its right end at or below the cell voltage, so the search passes it. -/
theorem segmentFraction_append {a b : Nat × Nat} {post : List (Nat × Nat)} {vc : Nat} (ha : a.1 ≤ vc)
    (hb : vc < b.1) (pre : List (Nat × Nat)) (k : Nat) (hr : (pre ++ a :: b :: post).Pairwise KnotBelow) :
    segmentFraction k (pre ++ a :: b :: post) vc = some (k + pre.length, a.2 + lineRise a b vc) := by
  induction pre generalizing k with
  | nil => exact segmentFraction_here k post ha hb
  | cons x pre ih =>
    have hrest := (List.pairwise_cons.1 hr).2
    obtain ⟨y, hy⟩ : ∃ y, (pre ++ a :: b :: post).head? = some y := by cases pre <;> simp
    have hya : y.1 ≤ a.1 := (first_le_knot hrest hy (by simp)).1
    rw [List.cons_append, segmentFraction_later k hy (hya.trans ha), ih (k + 1) hrest, List.length_cons,
      Nat.add_assoc, Nat.add_comm 1]

/-- A cell voltage from the first knot on and below the last falls between two neighbouring knots. -/
theorem exists_segment {b : Nat × Nat} {vc : Nat} (hb : vc < b.1) :
    ∀ {knots : List (Nat × Nat)} {a : Nat × Nat}, knots.head? = some a → knots.getLast? = some b → a.1 ≤ vc →
      ∃ pre x y post, knots = pre ++ x :: y :: post ∧ x.1 ≤ vc ∧ vc < y.1
  | [a], a', hfirst, hlast, ha => by
    simp only [List.head?_cons, List.getLast?_singleton, Option.some.injEq] at hfirst hlast
    subst hfirst hlast
    omega
  | x :: y :: rest, a', hfirst, hlast, ha => by
    obtain rfl : x = a' := Option.some.inj hfirst
    by_cases hy : vc < y.1
    · exact ⟨[], x, y, rest, rfl, ha, hy⟩
    · obtain ⟨pre, p, q, post, heq, hp, hq⟩ :=
        exists_segment hb (knots := y :: rest) rfl (by rwa [List.getLast?_cons_cons] at hlast) (not_lt.1 hy)
      exact ⟨x :: pre, p, q, post, by rw [heq, List.cons_append], hp, hq⟩

/-! ## The fraction of a curve (R118) -/

section Ends

variable {knots : List (Nat × Nat)} {a b : Nat × Nat} {vc : Nat}

theorem curveFraction_of_le_first (ha : knots.head? = some a) (hle : vc ≤ a.1) :
    curveFraction knots vc = (.belowFirst, a.2) := by
  simp [curveFraction, List.headD_eq_head?_getD, ha, hle]

theorem curveFraction_of_last_le (ha : knots.head? = some a) (hb : knots.getLast? = some b) (hlt : a.1 < vc)
    (hle : b.1 ≤ vc) : curveFraction knots vc = (.aboveLast, b.2) := by
  simp [curveFraction, List.headD_eq_head?_getD, List.getLastD_eq_getLast?, ha, hb, hlt.not_ge, hle]

theorem curveFraction_of_segment {k f : Nat} (ha : knots.head? = some a) (hb : knots.getLast? = some b)
    (hlt : a.1 < vc) (hgt : vc < b.1) (hseg : segmentFraction 0 knots vc = some (k, f)) :
    curveFraction knots vc = (.index k, f) := by
  simp [curveFraction, List.headD_eq_head?_getD, List.getLastD_eq_getLast?, ha, hb, hlt.not_ge, hgt.not_ge, hseg]

end Ends

/-- R118: between two knots the fraction is read on the line through them. At the left knot of the first segment it
is read as at the first knot, which the hypothesis on `a` leaves out. -/
theorem curveFraction_between {pre post : List (Nat × Nat)} {a b : Nat × Nat} {vc : Nat}
    (hr : (pre ++ a :: b :: post).Pairwise KnotBelow) (ha : a.1 < vc ∨ (a.1 = vc ∧ pre ≠ [])) (hb : vc < b.1) :
    curveFraction (pre ++ a :: b :: post) vc = (.index pre.length, a.2 + lineRise a b vc) := by
  have hle : a.1 ≤ vc := ha.elim le_of_lt fun h => h.1.le
  have hseg := segmentFraction_append hle hb pre 0 hr
  rw [Nat.zero_add] at hseg
  obtain ⟨last, hlast⟩ : ∃ last, (pre ++ a :: b :: post).getLast? = some last :=
    ⟨_, List.getLast?_eq_some_getLast (by simp)⟩
  have hgt : vc < last.1 := hb.trans_le (knot_le_last hr hlast (by simp)).1
  cases pre with
  | nil => exact curveFraction_of_segment rfl hlast (by simpa using ha) hgt hseg
  | cons first pre =>
    have hfirst : first.1 < a.1 := (List.rel_of_pairwise_cons hr (by simp)).1
    exact curveFraction_of_segment rfl hlast (hfirst.trans_le hle) hgt hseg

/-- On a curve that rises the fraction lies between those of the first and the last knot. -/
theorem curveFraction_bounds {knots : List (Nat × Nat)} {a b : Nat × Nat} (vc : Nat)
    (hr : knots.Pairwise KnotBelow) (ha : knots.head? = some a) (hb : knots.getLast? = some b) :
    a.2 ≤ (curveFraction knots vc).2 ∧ (curveFraction knots vc).2 ≤ b.2 := by
  have hab : a.2 ≤ b.2 := (first_le_knot hr ha (List.mem_of_getLast? hb)).2
  rcases le_or_gt vc a.1 with hle | hlt
  · simp [curveFraction_of_le_first ha hle, hab]
  rcases le_or_gt b.1 vc with hle | hgt
  · simp [curveFraction_of_last_le ha hb hlt hle, hab]
  obtain ⟨pre, x, y, post, rfl, hx, hy⟩ := exists_segment hgt ha hb hlt.le
  have hseg := segmentFraction_append hx hy pre 0 hr
  have hax : a.2 ≤ x.2 := (first_le_knot hr ha (by simp)).2
  have hyb : y.2 ≤ b.2 := (knot_le_last hr hb (by simp)).2
  have hxy : x.2 ≤ y.2 := (List.rel_of_pairwise_cons (List.pairwise_append.1 hr).2.1 (by simp)).2
  have hrise := lineRise_le hx hy
  rw [curveFraction_of_segment ha hb hlt hgt hseg]
  omega

theorem curveFraction_le {knots : List (Nat × Nat)} {m : Nat} (vc : Nat) (hr : knots.Pairwise KnotBelow)
    (hm : ∀ x ∈ knots, x.2 ≤ m) : (curveFraction knots vc).2 ≤ m := by
  cases knots with
  | nil =>
    have hzero : (curveFraction [] vc).2 = 0 := by simp [curveFraction, apply_ite Prod.snd]
    exact hzero.trans_le m.zero_le
  | cons a rest =>
    have hlast := List.getLast?_eq_some_getLast (List.cons_ne_nil a rest)
    exact (curveFraction_bounds vc hr rfl hlast).2.trans (hm _ (List.getLast_mem _))

/-! ## The estimates, the residual and the release test (R119 to R122) -/

theorem voltageEstimate_le {f : Nat} (e : Nat) (hf : f ≤ 1000) : voltageEstimate e f ≤ e :=
  (divUp_le_iff (by decide)).2 (Nat.mul_le_mul_left e hf)

theorem voltageEstimate_zero (e : Nat) : voltageEstimate e 0 = 0 := by simp [voltageEstimate, divUp]

theorem countedEstimate_eq (p : PackData) :
    countedEstimate p = p.eDecl.map (fun e => if p.eDis ≤ e then e - p.eDis else 0) := by
  refine congrArg p.eDecl.map (funext fun e => ?_)
  split <;> omega

theorem countedEstimate_le {p : PackData} (h : ∀ e, p.eDecl = some e → e ≤ p.eNom) :
    ∀ c, countedEstimate p = some c → c ≤ p.eNom := by
  intro c hc
  obtain ⟨e, he, rfl⟩ := Option.map_eq_some_iff.1 hc
  exact (Nat.sub_le ..).trans (h e he)

theorem residualOf_le {eV m : Nat} {eC : Option Nat} (hV : eV ≤ m) (hC : ∀ c, eC = some c → c ≤ m) :
    (residualOf eV eC).1 ≤ m := by
  cases eC with
  | none => exact hV
  | some c =>
    by_cases hlt : eV < c
    · simpa [residualOf, hlt] using hC c rfl
    · simpa [residualOf, hlt] using hV

theorem releaseTest_pass_iff (s : State) (r vc : Nat) :
    releaseTest s r vc = .pass ↔ r ≤ s.cfg.releaseLimit ∧ vc ≤ s.cfg.releaseCellVoltage := by
  unfold releaseTest
  split <;> simp [*]

/-! ## The computation (R123, steps 3 to 5) -/

theorem curveOf_eq {s : State} {n : Nat} {c : Curve} (hc : s.cfg.curves[n]? = some c) : curveOf s n = c := by
  simp [curveOf, at1, hc]

theorem computeFigures_fraction {s : State} {p : PackData} {c : Curve} (v : Int)
    (hc : s.cfg.curves[p.chemistry]? = some c) :
    ((computeFigures s v p).segment, (computeFigures s v p).fraction)
      = curveFraction c.knots (cellVoltage v p.cells) := by
  rw [← curveOf_eq hc]
  rfl

theorem computeFigures_residual_le {s : State} {v : Int} {p : PackData} (hf : (computeFigures s v p).fraction ≤ 1000)
    (hdecl : ∀ e, p.eDecl = some e → e ≤ p.eNom) : (computeFigures s v p).residual ≤ p.eNom :=
  residualOf_le (voltageEstimate_le p.eNom hf) (countedEstimate_le hdecl)

/-- Settles O42: the quotients by `divUp_le_iff`, the curve by the segment its search stops at, and the bounds of the
computation from those of the fraction and of the declared energy. -/
theorem residualArithmetic : Obligations.ResidualArithmetic := by
  refine ⟨fun v n hv hn => ?voltage, fun _ _ _ => curveFraction_of_le_first, fun _ _ _ _ => curveFraction_of_last_le,
    fun pre post a b vc hr ha hb => ?between, fun e f => ?estimate, countedEstimate_eq, fun _ _ => ⟨rfl, rfl⟩,
    releaseTest_pass_iff, fun s v p c f _ hc hf => ?computation⟩
  case voltage =>
    lift v to Nat using hv
    exact ⟨cellVoltage_le v n, mod_cast cellVoltage_mul_le v n, fun h => mod_cast lt_cellVoltage_succ_mul hn h⟩
  case between =>
    have hwidth : 0 < b.1 - a.1 := by omega
    exact ⟨lineRise a b vc, curveFraction_between (pairwise_of_knotsRise hr) ha hb, le_divUp_mul _ hwidth,
      divUp_pred_mul_lt hwidth⟩
  case estimate =>
    exact ⟨le_divUp_mul _ (by decide), divUp_pred_mul_lt (by decide), voltageEstimate_le e, voltageEstimate_zero e⟩
  case computation =>
    subst hf
    have hread := computeFigures_fraction v hc
    have hfraction : (computeFigures s v p).fraction = (curveFraction c.knots (cellVoltage v p.cells)).2 :=
      congrArg Prod.snd hread
    refine ⟨rfl, hread, rfl, rfl, rfl, rfl, fun hrise hknots => ?_⟩
    have hr := pairwise_of_knotsRise hrise
    refine ⟨fun a b ha hb => ?_, fun hdecl => ?_⟩
    · rw [hfraction]
      exact curveFraction_bounds _ hr ha hb
    · exact computeFigures_residual_le (hfraction.le.trans (curveFraction_le _ hr hknots)) hdecl

end Sys2Proof.Machine
end

section
/-! PROOF. What a part of a command keeps. `Keeps` is a reflexive and transitive relation between states with one field for
each safety property; a block that changes alone keeps what the other blocks say. -/

namespace Sys2Proof.Machine

open Sys2Proof

set_option Elab.async false

/-! ## A safety property sees only some parts of the state -/

theorem EngineSafe.congr {s t : State} (hs : EngineSafe s) (h : t.engine = s.engine) : EngineSafe t := by
  obtain ⟨h1, h2, h3, h4, h5⟩ := hs
  constructor <;> rw [h] <;> assumption

theorem LinkSafe.congr {s t : State} (hs : LinkSafe s) (h : t.link = s.link) : LinkSafe t := by
  obtain ⟨h1, h2, h3, h4, h5, h6⟩ := hs
  constructor <;> rw [h] <;> assumption

theorem EngineOnlyAtBay.congr {s t : State} (hs : EngineOnlyAtBay s) (hc : t.cfg = s.cfg) (he : t.engine = s.engine) :
    EngineOnlyAtBay t := by
  unfold EngineOnlyAtBay; rw [hc, he]; exact hs

theorem StoreFormed.congr {s t : State} (h : StoreFormed s) (hc : t.cfg = s.cfg) (hs : t.store = s.store)
    (hz : t.zone.level = s.zone.level) (hl : t.link.state = s.link.state) (ha : t.atm.state = s.atm.state) : StoreFormed t := by
  have hp : permitHolds t = permitHolds s := by simp [permitHolds, hs, hz, hl]
  have he : effectiveLimit t = effectiveLimit s := by simp only [effectiveLimit, ha, hc]
  obtain ⟨h1, h2, h3, h4⟩ := h
  constructor <;> simp only [hp, he, hs, hc] <;> assumption

/-- The store of a state as `StoreIs` gives it is well formed. -/
theorem StoreIs.formed {u : PackStore} {t : State} (h : StoreIs u t) : StoreFormed t := by
  unfold StoreIs at h
  constructor <;> rw [h]

theorem StoreBounded.congr {s t : State} (h : StoreBounded s) (hr : t.store.records = s.store.records)
    (hv : t.store.reservations = s.store.reservations) : StoreBounded t := by
  obtain ⟨h1, h2⟩ := h
  constructor
  · simpa only [entriesHeld, hr, hv] using h1
  · simpa only [packIds, hr, hv] using h2

/-- The balance equals the held count and `d` more, while no lost-count marker is set (R172). -/
def BalancedBy (d : Int) (s : State) : Prop := s.tally.marked = false → s.tally.balance = s.store.records.length + d

theorem tallyBalanced_iff (s : State) : TallyBalanced s ↔ BalancedBy 0 s := by
  simp only [BalancedBy, add_zero]
  exact ⟨fun h => h.balance, fun h => ⟨h⟩⟩

theorem BalancedBy.congr {d : Int} {s t : State} (h : BalancedBy d s) (hm : t.tally.marked = s.tally.marked)
    (hb : t.tally.balance = s.tally.balance) (hr : t.store.records.length = s.store.records.length) : BalancedBy d t := by
  unfold BalancedBy; rw [hm, hb, hr]; exact h

theorem JournalBounded.congr {s t : State} (h : JournalBounded s) (ho : t.tally.openLot = s.tally.openLot)
    (hc : t.tally.closedLots = s.tally.closedLots) : JournalBounded t := by
  obtain ⟨h1, h2, h3⟩ := h
  constructor
  · rwa [ho]
  · rwa [hc]
  · rwa [hc]

theorem FeedSafe.congr {s t : State} (h : FeedSafe s) (hc : t.cfg = s.cfg) (hp : t.atm.feedPermit = true → s.atm.feedPermit = true)
    (ha : t.atm.state = s.atm.state) (hz : t.zone.level = s.zone.level) (hl : t.link.state = s.link.state)
    (hr : t.store.records = s.store.records) : FeedSafe t := by
  intro hx
  have hs := h (hp hx)
  rwa [hc, hz, hl, hr, show atmosphereFeeds t = atmosphereFeeds s by simp [atmosphereFeeds, ha]]

/-- Without the feed permit nothing is asked. -/
theorem FeedSafe.of_dropped {t : State} (h : t.atm.feedPermit = false) : FeedSafe t := fun hx => by simp [h] at hx

theorem SuppressionSafe.congr {s t : State} (h : SuppressionSafe s) (hc : t.cfg = s.cfg) (hl : t.zone.level = s.zone.level)
    (hs : t.zone.suppression = s.zone.suppression) (hd : t.zone.countdown = s.zone.countdown) :
    SuppressionSafe t := by
  obtain ⟨h1, h2, h3⟩ := h
  constructor
  · rwa [hs, hl]
  · rwa [hd, hl]
  · rwa [hc, hl]

theorem ValvesFollow.congr {s t : State} (h : ValvesFollow s) (h1 : t.atm.state = s.atm.state) (h2 : t.atm.purgeValve = s.atm.purgeValve)
    (h3 : t.atm.makeUpValve = s.atm.makeUpValve) (h4 : t.atm.boost = s.atm.boost)
    (h5 : t.atm.supplySelect = s.atm.supplySelect) (h6 : t.atm.supply = s.atm.supply) :
    ValvesFollow t := by
  obtain ⟨i1, i2, i3, i4⟩ := h
  constructor <;> simp only [h1, h2, h3, h4, h5, h6] <;> assumption

theorem AttentionFollows.congr {s t : State} (h : AttentionFollows s) (h1 : t.port.counts = s.port.counts)
    (h2 : t.port.kindMasks = s.port.kindMasks) (h3 : t.port.attention = s.port.attention) :
    AttentionFollows t := by
  obtain ⟨i1, i2⟩ := h
  constructor <;> simp only [h1, h2, h3] <;> assumption

/-! ## Keeping -/

/-- The end of a countdown has come and R162 has not yet acted. -/
abbrev CountdownEnded (s : State) : Prop := s.zone.level = .countdown ∧ s.zone.endDue = true

/-- The parts of a command: the steps due before it, its own act, its answer to a request. -/
inductive Part where
  | due | act | answer
deriving DecidableEq

/-- What a part of the command `c` keeps: every safety property, with `k` more of the balance than of the held count; a
contactor open but for START; suppression but for an ended countdown; the reply that waits but for an answer; the
configuration, the factory identity, the commands that wait; and the Start Unit but for the entry into RUNNING. -/
structure Keeps (c : Instr) (p : Part) (k : Int) (s t : State) : Prop where
  engine : EngineSafe s → EngineSafe t := by exact fun h => h.congr (by simp [*])
  opened : (∀ tag, c ≠ .start tag) → EngineSafe s → s.engine.contactor = false → t.engine.contactor = false := by
    exact fun _ _ h => by simp [*]
  bay : EngineOnlyAtBay s → EngineOnlyAtBay t := by exact fun h => h.congr (by simp [*]) (by simp [*])
  formed : StoreFormed s → StoreFormed t := by
    exact fun h => h.congr (by simp [*]) (by simp [*]) (by simp [*]) (by simp [*]) (by simp [*])
  link : LinkSafe s → LinkSafe t := by exact fun h => h.congr (by simp [*])
  bounded : StoreBounded s → StoreBounded t := by exact fun h => h.congr (by simp [*]) (by simp [*])
  balanced : ∀ d, BalancedBy d s → BalancedBy (d + k) t := by
    exact fun d h => by rw [add_zero]; exact h.congr (by simp [*]) (by simp [*]) (by simp [*])
  journal : JournalBounded s → JournalBounded t := by exact fun h => h.congr (by simp [*]) (by simp [*])
  feed : StoreBounded s → EngineOnlyAtBay s → FeedSafe s → FeedSafe t := by
    exact fun _ _ h => h.congr (by simp [*]) (fun hp => by simpa [*] using hp) (by simp [*]) (by simp [*]) (by simp [*])
      (by simp [*])
  suppression : SuppressionSafe s → SuppressionSafe t := by
    exact fun h => h.congr (by simp [*]) (by simp [*]) (by simp [*]) (by simp [*])
  released : t.zone.suppression = true → s.zone.suppression = true ∨ p = .due ∧ CountdownEnded s := by
    exact fun h => .inl (by simpa [*] using h)
  ended : p = .due → CountdownEnded t → CountdownEnded s := by
    exact fun _ h => ⟨by simpa [*] using h.1, by simpa [*] using h.2⟩
  valves : ValvesFollow s → ValvesFollow t := by
    exact fun h => h.congr (by simp [*]) (by simp [*]) (by simp [*]) (by simp [*]) (by simp [*]) (by simp [*])
  attention : AttentionFollows s → AttentionFollows t := by exact fun h => h.congr (by simp [*]) (by simp [*]) (by simp [*])
  reply : p ≠ .answer → t.port.pendingReply = s.port.pendingReply := by exact fun _ => by simp [*]
  cfg : t.cfg = s.cfg := by simp [*]
  uniqueId : t.uniqueId = s.uniqueId := by simp [*]
  pending : t.pending = s.pending := by simp [*]
  start : t.start = s.start
      ∨ p = .due ∧ s.start.phase = .listening ∧ 3 ≤ s.peers.periodCount ∧ t.start = { s.start with phase := .running } := by
    exact .inl (by simp [*])
  count : p = .due → t.peers.periodCount = s.peers.periodCount := by exact fun _ => by simp [*]

variable {c : Instr} {p : Part} {k k' : Int} {s t u : State}

theorem Keeps.refl (s : State) : Keeps c p 0 s s where
  feed _ _ h := h
  released := .inl
  ended _ h := h

theorem Keeps.trans (h : Keeps c p k s t) (h' : Keeps c p k' t u) : Keeps c p (k + k') s u where
  engine := h'.engine ∘ h.engine
  opened hc hs := h'.opened hc (h.engine hs) ∘ h.opened hc hs
  bay := h'.bay ∘ h.bay
  formed := h'.formed ∘ h.formed
  link := h'.link ∘ h.link
  bounded := h'.bounded ∘ h.bounded
  balanced d hd := by rw [← add_assoc]; exact h'.balanced _ (h.balanced d hd)
  journal := h'.journal ∘ h.journal
  feed hb he hf := h'.feed (h.bounded hb) (h.bay he) (h.feed hb he hf)
  suppression := h'.suppression ∘ h.suppression
  released hu := by
    rcases h'.released hu with ht | ⟨hd, ht⟩
    · exact h.released ht
    · exact .inr ⟨hd, h.ended hd ht⟩
  ended hd hu := h.ended hd (h'.ended hd hu)
  valves := h'.valves ∘ h.valves
  attention := h'.attention ∘ h.attention
  reply hp := (h'.reply hp).trans (h.reply hp)
  cfg := h'.cfg.trans h.cfg
  uniqueId := h'.uniqueId.trans h.uniqueId
  pending := h'.pending.trans h.pending
  start := by
    rcases h.start with hs | ⟨hd, hp, hk, ht⟩
    · rcases h'.start with hu | ⟨hd', hp', hk', hu⟩
      · exact .inl (hu.trans hs)
      · exact .inr ⟨hd', hs ▸ hp', h.count hd' ▸ hk', by rw [hu, hs]⟩
    · rcases h'.start with hu | ⟨_, hp', _, _⟩
      · exact .inr ⟨hd, hp, hk, hu.trans ht⟩
      · simp [ht] at hp'
  count hd := (h'.count hd).trans (h.count hd)

/-- One part after another, the balance untouched by the second. -/
theorem Keeps.andThen (h : Keeps c p k s t) (h' : Keeps c p 0 t u) : Keeps c p k s u := by
  simpa using h.trans h'

theorem Keeps.after (h' : Keeps c p 0 t u) (h : Keeps c p k s t) : Keeps c p k s u := h.andThen h'

theorem Keeps.ite {q : Prop} [Decidable q] (h : q → Keeps c p k s t) (h' : ¬q → Keeps c p k s u) :
    Keeps c p k s (if q then t else u) := by
  split
  · exact h ‹_›
  · exact h' ‹_›

theorem Keeps.foldl {α : Type} {f : State → α → State} (h : ∀ s a, Keeps c p 0 s (f s a)) :
    ∀ (l : List α) (s : State), Keeps c p 0 s (l.foldl f s)
  | [], s => .refl s
  | a :: l, s => (h s a).andThen (foldl h l (f s a))

/-! ## A part that changes one block -/

theorem Keeps.withLink {x : Link} (state : x.state = s.link.state) (safe : LinkSafe s → LinkSafe (s.withLink x)) :
    Keeps c p 0 s (s.withLink x) := { link := safe }

theorem Keeps.withPeers {x : PeerTable} (count : p = .due → x.periodCount = s.peers.periodCount) :
    Keeps c p 0 s (s.withPeers x) := { count := count }

theorem Keeps.withBank (s : State) (x : FilterBank) : Keeps c p 0 s (s.withBank x) := {}

theorem Keeps.withResidual (s : State) (x : Option ComputationNote) : Keeps c p 0 s (s.withResidual x) := {}

theorem Keeps.withDraws (s : State) (x : Nat) : Keeps c p 0 s (s.withDraws x) := {}

theorem Keeps.withPort {x : Port} (reply : p ≠ .answer → x.pendingReply = s.port.pendingReply)
    (safe : AttentionFollows s → AttentionFollows (s.withPort x)) : Keeps c p 0 s (s.withPort x) :=
  { attention := safe, reply := reply }

/-- A change of the engine: only START may close a contactor that stands open, and off a BAY an engine that is IDLE with
no bound record stays so. -/
theorem Keeps.withEngine {x : Engine} (safe : EngineSafe s → EngineSafe (s.withEngine x))
    (opened : (∀ tag, c ≠ .start tag) →
      contactorClosed s.engine.state = true ∨ x.contactor = false ∨ x.contactor = s.engine.contactor)
    (bay : s.engine.state ≠ .idle ∨ (x.state = s.engine.state ∧ x.bound = s.engine.bound)
      ∨ (x.state = .idle ∧ x.bound = none) ∨ s.cfg.role = .bay) : Keeps c p 0 s (s.withEngine x) where
  engine := safe
  opened hc hs ho := by
    rcases opened hc with h | h | h
    · rw [hs.contactor, h] at ho; cases ho
    · exact h
    · exact h.trans ho
  bay hs hr := by
    rcases bay with h | ⟨h1, h2⟩ | h | h
    · exact absurd (hs hr).1 h
    · simpa [h1, h2] using hs hr
    · simpa using h
    · exact absurd h hr

/-- A change of the engine's counts, timers, readings, causes and notes. -/
theorem Keeps.ofCounts {x : Engine} (state : x.state = s.engine.state := by rfl) (contactor : x.contactor = s.engine.contactor := by rfl)
    (present : x.present = s.engine.present := by rfl) (loadStep : x.loadStep = s.engine.loadStep := by rfl)
    (target : x.target = s.engine.target := by rfl) (bound : x.bound = s.engine.bound := by rfl) : Keeps c p 0 s (s.withEngine x) := by
  refine .withEngine (fun h => ?_) (fun _ => .inr (.inr contactor)) (.inr (.inl ⟨state, bound⟩))
  obtain ⟨h1, h2, h3, h4, h5⟩ := h
  constructor <;> simpa [state, contactor, present, loadStep, target]

/-- A change of the zone that is no change of the level. -/
theorem Keeps.withZone {x : Zone} (level : x.level = s.zone.level := by rfl)
    (suppression : x.suppression = s.zone.suppression := by rfl) (countdown : x.countdown = s.zone.countdown := by rfl)
    (ended : p = .due → x.endDue = true → s.zone.endDue = true := by exact fun _ => id) :
    Keeps c p 0 s (s.withZone x) := { ended := fun hd ht => ⟨level ▸ ht.1, ended hd ht.2⟩ }

theorem Keeps.withTally {x : Tally} (marked : x.marked = false → s.tally.marked = false)
    (balance : x.marked = false → x.balance = s.tally.balance + k)
    (journal : JournalBounded s → JournalBounded (s.withTally x)) : Keeps c p k s (s.withTally x) :=
  { balanced := fun d hd hm => by
      have h := hd (marked hm)
      exact (balance hm).trans (by rw [h, add_assoc]; rfl)
    journal := journal }

/-- A change of the Atmosphere Unit that leaves its state and its outputs, and does not assert the feed permit. -/
theorem Keeps.withAtm {x : Atmosphere} (state : x.state = s.atm.state)
    (feedPermit : x.feedPermit = true → s.atm.feedPermit = true) (valves : ValvesFollow s → ValvesFollow (s.withAtm x)) :
    Keeps c p 0 s (s.withAtm x) :=
  { feed := fun _ _ h => h.congr (s := s) rfl feedPermit state rfl rfl rfl, valves := valves }

/-- A change of the Pack Store's counts, timers and note. -/
theorem Keeps.withStore {x : PackStore} (records : x.records = s.store.records := by rfl)
    (reservations : x.reservations = s.store.reservations := by rfl) (permit : x.permit = s.store.permit := by rfl)
    (held : x.heldEnergy = s.store.heldEnergy := by rfl) (reserved : x.reservedEnergy = s.store.reservedEnergy := by rfl)
    (allowance : x.allowance = s.store.allowance := by rfl) : Keeps c p 0 s (s.withStore x) :=
  { formed := fun h => by
      obtain ⟨h1, h2, h3, h4⟩ := h
      have e1 : permitHolds (s.withStore x) = permitHolds s := by
        unfold permitHolds
        rw [show (s.withStore x).store.records = s.store.records from records]
        rfl
      have e2 : effectiveLimit (s.withStore x) = effectiveLimit s := by simp [effectiveLimit]
      constructor <;> simpa [e1, e2, records, reservations, permit, held, reserved, allowance]  }

/-- The parts that a change of some blocks leaves, as equations for `simp`. -/
theorem OnlyChanges.eqs {l : List Block} (h : OnlyChanges l s t) :
    (.link ∉ l → t.link = s.link) ∧ (.peers ∉ l → t.peers = s.peers) ∧ (.store ∉ l → t.store = s.store)
      ∧ (.engine ∉ l → t.engine = s.engine) ∧ (.atm ∉ l → t.atm = s.atm) ∧ (.zone ∉ l → t.zone = s.zone)
      ∧ (.tally ∉ l → t.tally = s.tally) ∧ (.port ∉ l → t.port = s.port) ∧ (.start ∉ l → t.start = s.start)
      ∧ (.cfg ∉ l → t.cfg = s.cfg) ∧ (.uniqueId ∉ l → t.uniqueId = s.uniqueId) ∧ (.pending ∉ l → t.pending = s.pending) :=
  ⟨h .link, h .peers, h .store, h .engine, h .atm, h .zone, h .tally, h .port, h .start, h .cfg, h .uniqueId, h .pending⟩

/-- A change of the Pack Store and of the Atmosphere Unit, which the feed permit ties together. -/
theorem Keeps.ofStore (only : OnlyChanges [.store, .atm] s t) (formed : StoreFormed s → StoreFormed t)
    (bounded : StoreBounded s → StoreBounded t) (held : (s.store.records.length : Int) = t.store.records.length + k)
    (feed : StoreBounded s → EngineOnlyAtBay s → FeedSafe s → FeedSafe t) (valves : ValvesFollow s → ValvesFollow t) :
    Keeps c p k s t := by
  have h := only.eqs
  simp at h
  have balanced : ∀ d, BalancedBy d s → BalancedBy (d + k) t := fun d hd hm => by
    have := hd (by simpa [h] using hm)
    simp only [h, this]
    omega
  exact { formed := formed, bounded := bounded, balanced := balanced, feed := feed, valves := valves }

end Sys2Proof.Machine
end

section
/-! PROOF. What the operations of the Link Controller, the Station Port, the Peer Table, the Discharge Engine and the Tally
Unit keep. -/

namespace Sys2Proof.Machine

open Sys2Proof

set_option Elab.async false

variable {c : Instr} {p : Part}

/-! ## The Station Port -/

theorem counts_bound (s : State) (k : EventKind) (h : ∀ n, at1 0 s.port.counts n ≤ 255) (n : Nat) :
    at1 0 (raise k s).port.counts n ≤ 255 := by
  rw [raise_port]
  simp only [at1_set1]
  split
  · simp only [satSucc]
    omega
  · exact h n

theorem raise_keeps (k : EventKind) (s : State) : Keeps c p 0 s (raise k s) :=
  .withPort (fun _ => rfl) fun h => ⟨rfl, counts_bound s k h.counts⟩

theorem noticeFlag_keeps (n : Nat) (s : State) : Keeps c p 0 s (noticeFlag n s) := by
  have h : Keeps c p 0 s
      (if returnedFlag s.port n then s.withPort { s.port with reChange := set1 s.port.reChange n true } else s) :=
    .ite (fun _ => .withPort (fun _ => rfl) fun h => ⟨h.attention, h.counts⟩) fun _ => .refl s
  unfold noticeFlag
  exact .ite (fun _ => h) fun _ => h.andThen (raise_keeps _ _)

theorem formAttention_keeps {x : Port} (s : State) (reply : x.pendingReply = s.port.pendingReply := by rfl)
    (counts : x.counts = s.port.counts := by rfl) : Keeps c p 0 s (s.withPort (formAttention x)) :=
  .withPort (fun _ => reply) fun h => ⟨rfl, fun n => by simpa [formAttention, counts] using h.counts n⟩

/-- An answer to a request changes the port alone, and there neither counts nor masks. -/
theorem formReply_keeps (r : Reply) (s : State) : Keeps c .answer 0 s (formReply r s) := by
  unfold formReply
  split <;> exact .withPort (fun h => absurd rfl h) fun h => ⟨h.attention, h.counts⟩

/-! ## The Link Controller -/

/-- A change of the link that keeps its slots, its queue, its attempt and its sequence. -/
theorem Keeps.ofLinkCounts {s : State} {x : Link} (state : x.state = s.link.state := by rfl) (cause : x.clashCause = s.link.clashCause := by rfl)
    (alarm : x.alarmSlot = s.link.alarmSlot := by rfl) (stateSlot : x.stateSlot = s.link.stateSlot := by rfl)
    (join : x.joinSlot = s.link.joinSlot := by rfl) (queue : x.queue = s.link.queue := by rfl) (ahead : x.ahead = s.link.ahead := by rfl)
    (next : x.nextSequence = s.link.nextSequence := by rfl) (attempt : s.link.attempt = none → x.attempt = none := by exact id) :
    Keeps c p 0 s (s.withLink x) := by
  refine .withLink state fun h => ?_
  obtain ⟨h1, h2, h3, h4, h5, h6⟩ := h
  constructor <;> simp only [State.withLink_link, state, cause, alarm, stateSlot, join, queue, ahead, next]
  case clashed =>
    intro hc
    obtain ⟨i1, i2, i3, i4, i5⟩ := h6 hc
    exact ⟨i1, i2, i3, i4, attempt i5⟩
  all_goals assumption

/-- A change of an ACTIVE link: the bounds of the queue, the sequence and the ahead count remain to be shown. -/
theorem Keeps.ofActive {s : State} {x : Link} (active : s.link.state = .active) (state : x.state = s.link.state)
    (cause : x.clashCause = s.link.clashCause) (queue : LinkSafe s → x.queue.length ≤ 8)
    (sequence : LinkSafe s → x.nextSequence < 16) (ahead : LinkSafe s → x.ahead ≤ 3)
    (aheadEmpty : LinkSafe s → x.stateSlot = none → x.ahead = 0) : Keeps c p 0 s (s.withLink x) :=
  .withLink state fun h => {
    queue := queue h
    sequence := sequence h
    ahead := ahead h
    aheadEmpty := aheadEmpty h
    cause := by rw [State.withLink_link, state, cause]; exact h.cause
    clashed := fun hc => by rw [State.withLink_link, state, active] at hc; cases hc }

theorem link_active {s : State} (h : ¬s.link.state = .clashed) : s.link.state = .active := by
  cases hs : s.link.state
  · rfl
  · exact absurd hs h

theorem countReceiveError_keeps (s : State) : Keeps c p 0 s (countReceiveError s) :=
  .ofLinkCounts

theorem hearError_keeps (s : State) : Keeps c p 0 s (hearError s) :=
  .ite (fun _ => countReceiveError_keeps s) fun _ => .refl s

theorem placeHandoff_keeps (f : HandoffFrame) (s : State) : Keeps c p 0 s (placeHandoff f s) := by
  unfold placeHandoff
  refine .ite (fun _ => .refl s) fun ha => .ite (fun hq => ?_) fun _ => .ofLinkCounts
  exact .ofActive (link_active ha) rfl rfl (fun _ => by simp; omega) (fun h => h.sequence) (fun h => h.ahead)
    fun h => h.aheadEmpty

theorem placeCancel_keeps (n : Nat) (id : PackId) (o : Nat) (r : CancelReason) (s : State) :
    Keeps c p 0 s (placeCancel n id o r s) := placeHandoff_keeps _ s

theorem placedAll_keeps (fs : List HandoffFrame) (s : State) : Keeps c p 0 s (placedAll fs s) :=
  .foldl (fun s f => placeHandoff_keeps f s) fs s

theorem placeAlarm_keeps (f : AlarmFrame) (s : State) : Keeps c p 0 s (placeAlarm f s) := by
  rw [placeAlarm_is]
  unfold Link.withAlarm
  split
  · exact .refl s
  · next ha => exact .ofActive ha rfl rfl (fun h => h.queue) (fun h => h.sequence) (fun h => h.ahead) fun h => h.aheadEmpty

theorem placeJoin_keeps (f : JoinFrame) (s : State) : Keeps c p 0 s (placeJoin f s) := by
  rw [placeJoin_is]
  unfold Link.withJoin
  split
  · exact .refl s
  · next ha => exact .ofActive ha rfl rfl (fun h => h.queue) (fun h => h.sequence) (fun h => h.ahead) fun h => h.aheadEmpty

theorem placeState_keeps (f : StateFrame) (s : State) : Keeps c p 0 s (placeState f s) := by
  rw [placeState_is]
  unfold Link.withState
  split
  · exact .refl s
  · next ha =>
    exact .ofActive ha rfl rfl (fun h => h.queue) (fun _ => Nat.mod_lt _ (by decide)) (fun h => h.ahead)
      fun _ hn => by simp at hn

theorem endAttempt_keeps (a : Attempt) (s : State) : Keeps c p 0 s (endAttempt a s) := by
  unfold endAttempt
  exact .ite (fun _ => .ofLinkCounts (attempt := fun _ => rfl))
    fun _ => .ofLinkCounts (attempt := fun _ => rfl)

/-- An attempt is on the line at an ACTIVE link alone. -/
theorem LinkSafe.active_of_attempt {s : State} {a : Attempt} (h : LinkSafe s) (ha : s.link.attempt = some a) :
    s.link.state = .active := by
  refine link_active fun hc => ?_
  obtain ⟨_, _, _, _, hn⟩ := h.clashed hc
  rw [ha] at hn
  cases hn

theorem completeAttempt_safe {s : State} {a : Attempt} (ha : s.link.attempt = some a) (h : LinkSafe s) :
    LinkSafe (completeAttempt a s) := by
  have hs := h.active_of_attempt ha
  have hk : ∀ {x : Link}, x.state = s.link.state → x.clashCause = s.link.clashCause → x.queue.length ≤ 8 →
      x.nextSequence < 16 → x.ahead ≤ 3 → (x.stateSlot = none → x.ahead = 0) → LinkSafe (s.withLink x) :=
    fun h1 h2 h3 h4 h5 h6 =>
      (Keeps.ofActive (c := .startReset) (p := .act) hs h1 h2 (fun _ => h3) (fun _ => h4) (fun _ => h5) fun _ => h6).link h
  obtain ⟨h1, h2, h3, h4, h5, h6⟩ := h
  unfold completeAttempt
  split
  · exact hk rfl rfl h1 h2 h3 h4
  · exact hk rfl rfl h1 h2 h3 h4
  · exact hk rfl rfl h1 h2 (Nat.zero_le 3) fun _ => rfl
  · refine hk rfl rfl (by simp; omega) h2 (by dsimp only; split <;> omega) fun hn => ?_
    simp only at hn
    simp [hn]

theorem completeAttempt_keeps {s : State} {a : Attempt} (ha : s.link.attempt = some a) :
    Keeps c p 0 s (completeAttempt a s) := by
  have safe := completeAttempt_safe ha
  unfold completeAttempt at safe ⊢
  split at safe <;> exact .withLink rfl safe

/-! ## The Peer Table -/

theorem setPeer_keeps (n : Nat) (e : PeerEntry) (s : State) : Keeps c p 0 s (s.setPeer n e) := .withPeers fun _ => rfl

theorem peerChange_keeps (r : PeerNoteReason) (n : Nat) (s : State) : Keeps c p 0 s (peerChange r n s) :=
  (raise_keeps _ _).after (.withPeers fun _ => rfl)

theorem addEcho_keeps (echo : Nat) (s : State) : Keeps c p 0 s (addEcho echo s) := by
  unfold addEcho
  exact .ite (fun _ => (raise_keeps _ _).after (.withPeers fun _ => rfl)) fun _ => .withPeers fun _ => rfl

theorem examineUnheard_keeps (f : StateFrame) (s : State) : Keeps c p 0 s (examineUnheard f s) := by
  have notHeard : Keeps c p 0 s
      (if s.peers.notHeardLimit then s else raise .notHeard (s.withPeers { s.peers with notHeardLimit := true })) :=
    .ite (fun _ => .refl s) fun _ => (raise_keeps _ _).after (.withPeers fun _ => rfl)
  unfold examineUnheard
  split
  · exact .refl s
  · split
    · exact .ite (fun _ => (placeJoin_keeps _ _).after (.withPeers fun _ => rfl)) fun _ => .refl s
    · exact notHeard
    · exact notHeard
    · exact .ite (fun _ => .refl s) fun _ => (peerChange_keeps _ _ _).after (.withPeers fun _ => rfl)

/-! ## The Discharge Engine -/

theorem EngineSafe.closed {s : State} (h : EngineSafe s) (hc : contactorClosed s.engine.state = true) :
    s.engine.contactor = true := h.contactor.trans hc

/-- What `EngineSafe` asks of a block. -/
theorem engineSafe_with {s : State} {x : Engine} (contactor : x.contactor = contactorClosed x.state)
    (loadStep : x.loadStep = x.present) (zero : stepping x.state = false → x.present = 0) (present : x.present ≤ 63)
    (target : x.target ≤ 63) : EngineSafe (s.withEngine x) := ⟨contactor, loadStep, zero, present, target⟩

theorem targetStep_le (s : State) (i : Nat) : targetStep s i ≤ 63 := Nat.min_le_left _ _

theorem beginUnload_keeps {s : State} (q : UnloadPurpose) (h : contactorClosed s.engine.state = true) :
    Keeps c p 0 s (beginUnload q s) :=
  .withEngine
    (fun hs => engineSafe_with rfl hs.loadStep (fun hn => nomatch (show true = false from hn)) hs.presentBound hs.targetBound)
    (fun _ => .inl h) (.inl fun hi => by simp [hi, contactorClosed] at h)

theorem orderUnload_keeps (q : UnloadPurpose) (s : State) : Keeps c p 0 s (orderUnload q s) := by
  unfold orderUnload
  split
  case h_5 => exact .ofCounts
  case h_1 he | h_2 he | h_3 he | h_4 he => exact beginUnload_keeps q (by rw [he]; rfl)
  all_goals exact .refl s

theorem recomputeTarget_keeps (s : State) : Keeps c p 0 s (recomputeTarget s) := by
  have hk : ∀ {x : Engine}, x.state = s.engine.state → x.contactor = s.engine.contactor → x.present = s.engine.present →
      x.loadStep = s.engine.loadStep → x.target ≤ 63 → x.bound = s.engine.bound → Keeps c p 0 s (s.withEngine x) :=
    fun h1 h2 h3 h4 h5 h6 => by
      refine .withEngine (fun h => ?_) (fun _ => .inr (.inr h2)) (.inr (.inl ⟨h1, h6⟩))
      exact engineSafe_with (by rw [h1, h2]; exact h.contactor) (by rw [h3, h4]; exact h.loadStep)
        (by rw [h1, h3]; exact h.zeroStep) (by rw [h3]; exact h.presentBound) h5
  unfold recomputeTarget
  split
  · exact .refl s
  · exact .ite (fun _ => hk rfl rfl rfl rfl (targetStep_le _ _) rfl) fun _ => hk rfl rfl rfl rfl (targetStep_le _ _) rfl

theorem recomputeUnderLoad_keeps (s : State) : Keeps c p 0 s (recomputeUnderLoad s) :=
  .ite (fun _ => recomputeTarget_keeps s) fun _ => .refl s

/-- The engine enters RAMP from a state with the contactor closed. -/
theorem enterRamp_keeps {s : State} (h : contactorClosed s.engine.state = true) : Keeps c p 0 s (enterRamp s) := by
  have h1 : Keeps c p 0 s (onEngine (fun e => { e.enter .ramp with rampCount := 0, settleRun := 0 }) s) :=
    .withEngine (fun hs => engineSafe_with rfl hs.loadStep (fun hn => nomatch (show true = false from hn)) hs.presentBound hs.targetBound)
      (fun _ => .inl h) (.inl fun hi => by simp [hi, contactorClosed] at h)
  exact (h1.andThen (recomputeTarget_keeps _)).andThen .ofCounts

theorem enterIdle_keeps (s : State) : Keeps c p 0 s (enterIdle s) :=
  .withEngine (fun hs => engineSafe_with rfl rfl (fun _ => rfl) (Nat.zero_le _) hs.targetBound) (fun _ => .inr (.inl rfl))
    (.inr (.inr (.inl ⟨rfl, rfl⟩)))

theorem endNote_keeps (o : EndOutcome) (s : State) : Keeps c p 0 s (endNote o s) := by
  unfold endNote
  split
  · exact .ofCounts
  · exact .refl s

/-- A state with the contactor open and the load at step 0, entered from one that is not IDLE. -/
theorem enterOpened_keeps {s : State} {x : Engine} (h : s.engine.state ≠ .idle) (contactor : x.contactor = false)
    (closed : contactorClosed x.state = false) (present : x.present = 0) (loadStep : x.loadStep = 0)
    (target : x.target = s.engine.target) : Keeps c p 0 s (s.withEngine x) :=
  .withEngine (fun hs => engineSafe_with (by rw [contactor, closed]) (by rw [loadStep, present]) (fun _ => present)
    (by omega) (target ▸ hs.targetBound)) (fun _ => .inr (.inl contactor)) (.inl h)

theorem takeMeasurementLoss_keeps (s : State) : Keeps c p 0 s (takeMeasurementLoss s) :=
  .ite (fun _ => (orderUnload_keeps _ _).after .ofCounts) fun _ => .refl s

theorem takeRampStep_keeps (s : State) : Keeps c p 0 s (takeRampStep s) := by
  unfold takeRampStep
  refine .ite (fun h => ?_) fun _ => .refl s
  refine .ite (fun _ => .ofCounts) fun _ => ?_
  have hs : stepping s.engine.state = true := by simpa [stepping] using h.1
  refine .withEngine (fun he => ?_) (fun _ => .inr (.inr rfl)) (.inr (.inl ⟨rfl, rfl⟩))
  have hb := he.presentBound
  have hw : wantedStep s.engine ≤ 63 := by unfold wantedStep; split <;> [omega; exact he.targetBound]
  refine engineSafe_with he.contactor rfl (fun hn => ?_) ?_ he.targetBound
  · rw [show stepping s.engine.state = false from hn] at hs; cases hs
  · simp only [Engine.setPresent]
    split_ifs <;> omega

theorem takeRestCurrentFault_keeps (s : State) : Keeps c p 0 s (takeRestCurrentFault s) :=
  .ite (fun h => beginUnload_keeps _ (by rw [h.1]; rfl)) fun _ => .refl s

theorem takeLoadStuck_keeps (s : State) : Keeps c p 0 s (takeLoadStuck s) :=
  .ite (fun h => (raise_keeps _ _).after (enterOpened_keeps (by rw [h.1]; decide) rfl rfl rfl rfl rfl)) fun _ => .refl s

theorem takeSettleTimeout_keeps (s : State) : Keeps c p 0 s (takeSettleTimeout s) :=
  .ite (fun h => beginUnload_keeps _ (by rcases h.1 with e | e <;> rw [e] <;> rfl)) fun _ => .refl s

theorem onEngineCounts_keeps {f : Engine → Engine} (s : State) (state : (f s.engine).state = s.engine.state)
    (contactor : (f s.engine).contactor = s.engine.contactor) (present : (f s.engine).present = s.engine.present)
    (loadStep : (f s.engine).loadStep = s.engine.loadStep) (target : (f s.engine).target = s.engine.target)
    (bound : (f s.engine).bound = s.engine.bound) : Keeps c p 0 s (onEngine f s) :=
  .ofCounts state contactor present loadStep target bound

theorem judge_keeps (fresh : Option Reading) (s : State) : Keeps c p 0 s (onEngine (Engine.judge fresh) s) := by
  cases fresh with
  | some r => exact onEngineCounts_keeps s rfl rfl rfl rfl rfl rfl
  | none => apply onEngineCounts_keeps <;> simp only [Engine.judge] <;> split <;> rfl

theorem settle_keeps (n m k : Nat) (r : Reading) (s : State) : Keeps c p 0 s (onEngine (Engine.settle n m k r) s) := by
  apply onEngineCounts_keeps <;> unfold Engine.settle <;> split <;> rfl

theorem countZero_keeps (n : Nat) (s : State) : Keeps c p 0 s (onEngine (Engine.countZero n) s) := by
  apply onEngineCounts_keeps <;> unfold Engine.countZero <;> repeat' split
  all_goals rfl

theorem countRest_keeps (n : Nat) (r : Reading) (s : State) : Keeps c p 0 s (onEngine (Engine.countRest n r) s) := by
  apply onEngineCounts_keeps <;> unfold Engine.countRest <;> split <;> rfl

theorem updateRuns_keeps (was : EngineState) (fresh : Option Reading) (s : State) :
    Keeps c p 0 s (updateRuns was fresh s) := by
  unfold updateRuns
  refine .ite (fun _ => ?_) fun _ => .ite (fun _ => countZero_keeps _ _) fun _ => .ite (fun _ => ?_) fun _ => .refl s
  · split
    · exact settle_keeps _ _ _ _ s
    · exact .refl s
  · split
    · exact countRest_keeps _ _ s
    · exact .refl s

theorem enterRun_keeps (s : State) : Keeps c p 0 s (enterRun s) := by
  unfold enterRun
  refine .ite (fun h => ?_) fun _ => .refl s
  exact .withEngine
    (fun hs => engineSafe_with rfl hs.loadStep (fun hn => nomatch (show true = false from hn)) hs.presentBound hs.targetBound)
    (fun _ => .inl (by rw [h.1]; rfl)) (.inl (by rw [h.1]; decide))

end Sys2Proof.Machine
end

section
/-! PROOF. What the operations of the Tally Unit, the Pack Store and the Atmosphere Unit keep. -/

namespace Sys2Proof.Machine

open Sys2Proof

set_option Elab.async false

variable {c : Instr} {p : Part}

/-! ## The Tally Unit -/

/-- A counter that has met its largest value is marked; any other has risen by 1 (R171). -/
theorem bump_cases (x : Counter) :
    x.bump.lost = true ∨ x.bump.lost = x.lost ∧ x.bump.value = x.value + 1 := by
  unfold Counter.bump
  split
  · exact .inr ⟨rfl, rfl⟩
  · exact .inl rfl

theorem countAdmitted_keeps (s : State) : Keeps c p 1 s (countAdmitted s) := by
  refine .withTally (fun h => ?_) (fun h => ?_) fun h => ⟨h.openLot, h.closedLots, h.four⟩ <;>
    rcases bump_cases s.tally.admitted with hb | ⟨hl, hv⟩ <;>
    simp_all [Tally.marked, Tally.balance]
  omega

theorem countReceived_keeps (s : State) : Keeps c p 1 s (countReceived s) := by
  refine .withTally (fun h => ?_) (fun h => ?_) fun h => ⟨h.openLot, h.closedLots, h.four⟩ <;>
    rcases bump_cases s.tally.received with hb | ⟨hl, hv⟩ <;>
    simp_all [Tally.marked, Tally.balance]
  omega

theorem countReleased_keeps (s : State) : Keeps c p (-1) s (countReleased s) := by
  refine .withTally (fun h => ?_) (fun h => ?_) fun h => ⟨h.openLot, h.closedLots, h.four⟩ <;>
    rcases bump_cases s.tally.released with hb | ⟨hl, hv⟩ <;>
    simp_all [Tally.marked, Tally.balance]
  omega

theorem countRemoved_keeps (s : State) : Keeps c p (-1) s (countRemoved s) := by
  refine .withTally (fun h => ?_) (fun h => ?_) fun h => ⟨h.openLot, h.closedLots, h.four⟩ <;>
    rcases bump_cases s.tally.removed with hb | ⟨hl, hv⟩ <;>
    simp_all [Tally.marked, Tally.balance]
  omega

theorem addDischarged_keeps (joules : Nat) (s : State) : Keeps c p 0 s (addDischarged joules s) :=
  .withTally id (fun _ => (add_zero _).symm) fun h => ⟨h.openLot, h.closedLots, h.four⟩

/-- A change of the open lot that leaves its packs and its close reason. -/
theorem lotMap_keeps {f : Lot → Lot} (hr : ∀ l, (f l).closeReason = l.closeReason) (hp : ∀ l, (f l).packs = l.packs)
    (s : State) : Keeps c p 0 s (s.withTally { s.tally with openLot := s.tally.openLot.map f }) := by
  refine .withTally id (fun _ => (add_zero _).symm) fun h => ⟨fun l hl => ?_, h.closedLots, h.four⟩
  obtain ⟨l0, h0, rfl⟩ := Option.map_eq_some_iff.mp hl
  rw [hr, hp]
  exact h.openLot l0 h0

theorem tallyWatch_keeps (s : State) : Keeps c p 0 s (tallyWatch s) := by
  rw [tallyWatch_is]
  exact lotMap_keeps (by intro; rfl) (by intro; rfl) s

theorem tallyPeak_keeps (s : State) : Keeps c p 0 s (tallyPeak s) := by
  rw [tallyPeak_is]
  exact lotMap_keeps (by intro; rfl) (by intro; rfl) s

/-- The journal once a lot of 1 to 48 packs has closed at the newest end. -/
theorem lotClosed_bounded {s : State} {l : Lot} (r : CloseReason) (hp : 1 ≤ l.packs.length ∧ l.packs.length ≤ 48)
    (h : ∀ x ∈ s.tally.closedLots, x.closeReason ≠ none ∧ 1 ≤ x.packs.length ∧ x.packs.length ≤ 48) :
    (∀ x ∈ ({ l with closeReason := some r } :: s.tally.closedLots).take 4,
      x.closeReason ≠ none ∧ 1 ≤ x.packs.length ∧ x.packs.length ≤ 48)
      ∧ (({ l with closeReason := some r } :: s.tally.closedLots).take 4).length ≤ 4 := by
  refine ⟨fun x hx => ?_, by simp only [List.length_take]; omega⟩
  rcases List.mem_cons.mp (List.mem_of_mem_take hx) with rfl | hx
  · exact ⟨by simp, hp⟩
  · exact h x hx

/-- The Tally Unit with its open lot closed keeps its counters, and a lot of up to 48 packs may close. -/
theorem lotClosed_counts (r : CloseReason) (t : Tally) :
    (t.lotClosed r).marked = t.marked ∧ (t.lotClosed r).balance = t.balance := by
  unfold Tally.lotClosed; split <;> exact ⟨rfl, rfl⟩

theorem lotClosedPort_keeps {s u : State} (h : u.port = s.port) : Keeps c p 0 s (s.withPort (lotClosedPort u)) := by
  have e : (raise .lotClosed u).port = (raise .lotClosed s).port := raise_port_congr _ h
  unfold lotClosedPort
  split
  · rw [e]
    exact raise_keeps .lotClosed s
  · rw [h]
    exact .refl s

/-- The closing of an open lot of up to 48 packs, after other changes of the Tally Unit. -/
theorem closeLot_withTally_keeps {k : Int} {s : State} {x : Tally} (r : CloseReason)
    (marked : x.marked = false → s.tally.marked = false) (balance : x.marked = false → x.balance = s.tally.balance + k)
    (openLot : JournalBounded s → ∀ l, x.openLot = some l → 1 ≤ l.packs.length ∧ l.packs.length ≤ 48)
    (closedLots : x.closedLots = s.tally.closedLots) : Keeps c p k s (closeLot r (s.withTally x)) := by
  obtain ⟨hm, hb⟩ := lotClosed_counts r x
  have hport : Keeps c p 0 s (s.withPort (lotClosedPort (s.withTally x))) := lotClosedPort_keeps rfl
  have htally : Keeps c p k (s.withPort (lotClosedPort (s.withTally x)))
      ((s.withPort (lotClosedPort (s.withTally x))).withTally (x.lotClosed r)) := by
    refine .withTally (fun h => marked (hm ▸ h)) (fun h => by rw [hb]; exact balance (hm ▸ h)) fun h => ?_
    cases hl : x.openLot with
    | none =>
      have e : x.lotClosed r = x := by simp [Tally.lotClosed, hl]
      rw [e]
      exact ⟨fun l h => (by simp [hl] at h), closedLots ▸ h.closedLots, closedLots ▸ h.four⟩
    | some l =>
      have hc : ∀ y ∈ x.closedLots, y.closeReason ≠ none ∧ 1 ≤ y.packs.length ∧ y.packs.length ≤ 48 :=
        closedLots ▸ h.closedLots
      obtain ⟨h1, h2⟩ := lotClosed_bounded (s := s.withTally x) r (openLot ⟨h.openLot, h.closedLots, h.four⟩ l hl) hc
      have e : x.lotClosed r = { x with
          openLot := none, closedLots := ({ l with closeReason := some r } :: x.closedLots).take 4 } := by
        simp [Tally.lotClosed, hl]
      rw [e]
      exact ⟨fun x h => (by simp at h), h1, h2⟩
  rw [closeLot_is]
  have h := hport.trans htally
  rw [zero_add] at h
  exact h

theorem closeLot_keeps (r : CloseReason) (s : State) : Keeps c p 0 s (closeLot r s) := by
  refine closeLot_withTally_keeps (s := s) (x := s.tally) r id (fun _ => (add_zero _).symm) (fun h l hl => ?_) rfl
  obtain ⟨_, h1, h2⟩ := h.openLot l hl
  omega

theorem tallyConsumed_keeps (id : PackId) (residual : Nat) (s : State) : Keeps c p (-1) s (tallyConsumed id residual s) := by
  have marked : ∀ x : Tally, x.admitted = s.tally.admitted → x.received = s.tally.received →
      x.released = s.tally.released → x.consumed = s.tally.consumed.bump → x.removed = s.tally.removed →
      (x.marked = false → s.tally.marked = false) ∧ (x.marked = false → x.balance = s.tally.balance + -1) := by
    intro x h1 h2 h3 h4 h5
    rcases bump_cases s.tally.consumed with hb | ⟨hl, hv⟩ <;> simp_all [Tally.marked, Tally.balance]
    omega
  have one : ∀ x : Tally, x.admitted = s.tally.admitted → x.received = s.tally.received →
      x.released = s.tally.released → x.consumed = s.tally.consumed.bump → x.removed = s.tally.removed →
      x.closedLots = s.tally.closedLots →
      (JournalBounded s → ∀ l, x.openLot = some l → l.closeReason = none ∧ 1 ≤ l.packs.length ∧ l.packs.length ≤ 47) →
      Keeps c p (-1) s (s.withTally x) := fun x h1 h2 h3 h4 h5 hc ho =>
    .withTally (marked x h1 h2 h3 h4 h5).1 (marked x h1 h2 h3 h4 h5).2 fun h =>
      ⟨ho h, by simpa [hc] using h.closedLots, by simpa [hc] using h.four⟩
  have closing : ∀ (r : CloseReason) (x : Tally), x.admitted = s.tally.admitted → x.received = s.tally.received →
      x.released = s.tally.released → x.consumed = s.tally.consumed.bump → x.removed = s.tally.removed →
      x.closedLots = s.tally.closedLots →
      (JournalBounded s → ∀ l, x.openLot = some l → 1 ≤ l.packs.length ∧ l.packs.length ≤ 48) →
      Keeps c p (-1) s (closeLot r (s.withTally x)) := fun r x h1 h2 h3 h4 h5 hc ho =>
    closeLot_withTally_keeps r (marked x h1 h2 h3 h4 h5).1 (marked x h1 h2 h3 h4 h5).2 ho hc
  rw [tallyConsumed_is]
  split
  · next lot hlot =>
    refine .ite (fun _ => closing _ _ rfl rfl rfl rfl rfl rfl fun h l hl => ?_)
      fun hn => one _ rfl rfl rfl rfl rfl rfl fun h l hl => ?_
    all_goals
      obtain ⟨h0, h1, h2⟩ := h.openLot lot hlot
      obtain rfl := Option.some.inj hl
      simp [h0]
      omega
  · have first : ∀ {l lot : Lot}, lot.packs = [id] → some lot = some l → 1 ≤ l.packs.length ∧ l.packs.length ≤ 47 := by
      rintro l lot hp ⟨⟩
      simp [hp]
    refine .ite (fun _ => closing _ _ rfl rfl rfl rfl rfl rfl fun _ l hl => ?_)
      fun _ => .ite (fun _ => closing _ _ rfl rfl rfl rfl rfl rfl fun _ l hl => ?_)
        fun _ => one _ rfl rfl rfl rfl rfl rfl fun _ l hl => ?_
    · obtain ⟨h1, h2⟩ := first rfl hl
      omega
    · obtain ⟨h1, h2⟩ := first rfl hl
      omega
    · obtain rfl := Option.some.inj hl
      exact ⟨rfl, first rfl rfl⟩

end Sys2Proof.Machine
end

section
/-! PROOF. What the operations of the Pack Store and the Atmosphere Unit keep. -/

namespace Sys2Proof.Machine

open Sys2Proof

set_option Elab.async false

variable {c : Instr} {p : Part}

/-! ## Records and reservations -/

/-- Two records of one pack ID are one. -/
theorem StoreBounded.record_unique {s : State} (h : StoreBounded s) {r q : PackRecord} (hr : r ∈ s.store.records)
    (hq : q ∈ s.store.records) (hid : r.id = q.id) : r = q :=
  List.inj_on_of_nodup_map (List.nodup_append.mp h.distinct).1 hr hq hid

theorem findRecord_some {s : State} {id : PackId} {r : PackRecord} (h : findRecord id s = some r) :
    r ∈ s.store.records ∧ r.id = id :=
  ⟨List.mem_of_find?_eq_some h, by simpa using List.find?_some h⟩

/-- The FEEDING record that the feed permit asks for stands under other records too. -/
theorem FeedSafe.withRecords {s t : State} (h : FeedSafe s) (hc : t.cfg = s.cfg) (ha : t.atm = s.atm) (hz : t.zone = s.zone)
    (hl : t.link = s.link)
    (hr : s.atm.feedPermit = true → s.cfg.role = .chamber → ∀ r ∈ s.store.records, r.state = .feeding → marksAny r.data.marks = false →
      ∃ q ∈ t.store.records, q.state = .feeding ∧ marksAny q.data.marks = false) : FeedSafe t := by
  intro hp
  obtain ⟨h1, h2, h3, h4, r, hm, h5, h6⟩ := h (by rwa [ha] at hp)
  rw [ha] at hp
  exact ⟨by rwa [hc], by simpa [atmosphereFeeds, ha] using h2, by rwa [hz], by rwa [hl], hr hp h1 r hm h5 h6⟩

/-- A change of the Pack Store alone, its permit and sums formed afresh. -/
theorem Keeps.refreshed {k : Int} {s : State} {x : PackStore} (formed : StoreFormed (s.withStore x))
    (bounded : StoreBounded s → StoreBounded (s.withStore x)) (held : (s.store.records.length : Int) = x.records.length + k)
    (feed : StoreBounded s → EngineOnlyAtBay s → s.atm.feedPermit = true → s.cfg.role = .chamber → ∀ r ∈ s.store.records, r.state = .feeding →
      marksAny r.data.marks = false → ∃ q ∈ x.records, q.state = .feeding ∧ marksAny q.data.marks = false) :
    Keeps c p k s (s.withStore x) :=
  .ofStore (fun b hb => by cases b <;> simp at hb <;> simp [sameBlock]) (fun _ => formed) bounded held
    (fun hb he h => h.withRecords rfl rfl rfl rfl (feed hb he))
    (fun h => h.congr rfl rfl rfl rfl rfl rfl)

/-- Other records under the same pack IDs, where a FEEDING record without a mark stays so. -/
theorem putRecords_keeps {s : State} {rs : List PackRecord}
    (ids : rs.map (fun r => r.id) = s.store.records.map (fun r => r.id))
    (feed : StoreBounded s → EngineOnlyAtBay s → s.atm.feedPermit = true → s.cfg.role = .chamber → ∀ r ∈ s.store.records, r.state = .feeding →
      marksAny r.data.marks = false → ∃ q ∈ rs, q.state = .feeding ∧ marksAny q.data.marks = false) :
    Keeps c p 0 s (putRecords rs s) := by
  have hlen : rs.length = s.store.records.length := by simpa using congrArg List.length ids
  refine .refreshed (putRecords_is rs s).formed (fun h => ?_) (by simp [hlen]) feed
  obtain ⟨h1, h2⟩ := h
  exact ⟨by simpa [entriesHeld, hlen] using h1,
    by simpa only [packIds, State.withStore_store, ids] using h2⟩

/-- A record changes under its pack ID: one that is FEEDING without a mark stays so. -/
theorem updateRecord_keeps {s : State} {id : PackId} {f : PackRecord → PackRecord}
    (feed : StoreBounded s → EngineOnlyAtBay s → s.atm.feedPermit = true → s.cfg.role = .chamber → ∀ r ∈ s.store.records, r.id = id →
      r.state = .feeding → marksAny r.data.marks = false →
      (f r).state = .feeding ∧ marksAny (f r).data.marks = false)
    (hid : ∀ r, r.id = id → (f r).id = id := by intro _ h; exact h) :
    Keeps c p 0 s (updateRecord id f s) := by
  refine putRecords_keeps ?_ fun hb he hp hr r hm h1 h2 => ?_
  · rw [List.map_map]
    refine List.map_congr_left fun r _ => ?_
    simp only [Function.comp]
    split
    · next h => exact (hid r h).trans h.symm
    · rfl
  · by_cases h : r.id = id
    · exact ⟨f r, List.mem_map.mpr ⟨r, hm, if_pos h⟩, feed hb he hp hr r hm h h1 h2⟩
    · exact ⟨r, List.mem_map.mpr ⟨r, hm, if_neg h⟩, h1, h2⟩

/-- A change of a record that leaves its state and its marks. -/
theorem updateRecord_keeps_of_same {s : State} {id : PackId} {f : PackRecord → PackRecord}
    (state : ∀ r, (f r).state = r.state := by intro; rfl)
    (marks : ∀ r, (f r).data.marks = r.data.marks := by intro; rfl)
    (hid : ∀ r, r.id = id → (f r).id = id := by intro _ h; exact h) :
    Keeps c p 0 s (updateRecord id f s) :=
  updateRecord_keeps (hid := hid) fun _ _ _ _ r _ _ h1 h2 => ⟨(state r).trans h1, by rwa [marks r]⟩

/-- Any change of a record that stands in another state than FEEDING. -/
theorem updateRecord_keeps_of_state {s : State} {id : PackId} {f : PackRecord → PackRecord}
    {q : PackRecord} (hq : q ∈ s.store.records) (hqid : q.id = id) (hn : q.state ≠ .feeding)
    (hid : ∀ r, r.id = id → (f r).id = id := by intro _ h; exact h) :
    Keeps c p 0 s (updateRecord id f s) :=
  updateRecord_keeps (hid := hid) fun hb _ _ _ r hr h h1 _ => by
    obtain rfl := hb.record_unique hr hq (h.trans hqid.symm)
    exact absurd h1 hn

/-- Any change of a record at a role other than CHAMBER. -/
theorem updateRecord_keeps_of_role {s : State} {id : PackId} {f : PackRecord → PackRecord}
    (hn : s.cfg.role ≠ .chamber)
    (hid : ∀ r, r.id = id → (f r).id = id := by intro _ h; exact h) : Keeps c p 0 s (updateRecord id f s) :=
  updateRecord_keeps (hid := hid) fun _ _ _ hr => absurd hr hn

/-- Any change of a record while the feed permit is not asserted. -/
theorem updateRecord_keeps_of_dropped {s : State} {id : PackId} {f : PackRecord → PackRecord} (hp : s.atm.feedPermit = false)
    (hid : ∀ r, r.id = id → (f r).id = id := by intro _ h; exact h) : Keeps c p 0 s (updateRecord id f s) :=
  updateRecord_keeps (hid := hid) fun _ _ h => absurd h (by simp [hp])

/-- A bound record stands at a BAY alone, where nothing is FEEDING. -/
theorem updateRecord_keeps_of_bound {s : State} {id i : PackId} {f : PackRecord → PackRecord}
    (hb : s.engine.bound = some i)
    (hid : ∀ r, r.id = id → (f r).id = id := by intro _ h; exact h) : Keeps c p 0 s (updateRecord id f s) :=
  updateRecord_keeps (hid := hid) fun _ he _ hr => by
    have := (he (by rw [hr]; decide)).2
    rw [hb] at this
    cases this

theorem updateBound_keeps (f : PackData → PackData) (s : State) : Keeps c p 0 s (updateBound f s) := by
  unfold updateBound
  split
  · next hb => exact updateRecord_keeps_of_bound hb
  · exact .refl s

/-- Some of the reservations leave. -/
theorem putReservations_keeps {s : State} {vs : List Reservation} (h : vs.Sublist s.store.reservations) :
    Keeps c p 0 s (putReservations vs s) := by
  refine .refreshed (putReservations_is vs s).formed (fun hs => ?_) (by simp)
    fun _ _ _ _ r hr h1 h2 => ⟨r, hr, h1, h2⟩
  obtain ⟨h1, h2⟩ := hs
  have hl := h.length_le
  refine ⟨?_, ?_⟩
  · simp only [entriesHeld, State.withStore_store] at h1 ⊢
    omega
  · simp only [packIds, State.withStore_store] at h2 ⊢
    exact h2.sublist ((List.Sublist.refl _).append (h.map _))

theorem dropReservation_keeps (v : Reservation) (s : State) : Keeps c p 0 s (dropReservation v s) :=
  putReservations_keeps List.eraseP_sublist

/-- A reservation joins for a pack ID that the store does not hold, while there is room. -/
theorem addReservation_keeps {s : State} {v : Reservation} (room : entriesHeld s < 16)
    (fresh : v.packId ∉ packIds s) : Keeps c p 0 s (putReservations (s.store.reservations ++ [v]) s) := by
  refine .refreshed (putReservations_is (s.store.reservations ++ [v]) s).formed (fun hs => ?_) (by simp)
    fun _ _ _ _ r hr h1 h2 => ⟨r, hr, h1, h2⟩
  refine ⟨?_, ?_⟩
  · simp only [entriesHeld, State.withStore_store, List.length_append,
      List.length_singleton] at room ⊢
    omega
  · have e : packIds (putReservations (s.store.reservations ++ [v]) s) = packIds s ++ [v.packId] := by
      simp [packIds, putReservations, refreshStore]
    refine e ▸ ?_
    exact List.nodup_append.mpr ⟨hs.distinct, List.nodup_singleton _, fun a ha b hb => by
      obtain rfl := List.mem_singleton.mp hb
      exact fun hab => fresh (hab ▸ ha)⟩

/-- A record joins the end of the store under a pack ID that it does not hold, while there is room. -/
theorem joinRecord_keeps {s : State} {r : PackRecord} (room : entriesHeld s < 16) (fresh : r.id ∉ packIds s) :
    Keeps c p (-1) s (joinRecord r s) := by
  refine .refreshed (putRecords_is (s.store.records ++ [r]) s).formed (fun hs => ?_) (by simp)
    fun _ _ _ _ r hr h1 h2 => ⟨r, List.mem_append_left _ hr, h1, h2⟩
  refine ⟨?_, ?_⟩
  · simp only [entriesHeld, State.withStore_store, List.length_append,
      List.length_singleton] at room ⊢
    omega
  · have hd := hs.distinct
    simp only [packIds, State.withStore_store, List.map_append, List.map_cons,
      List.map_nil] at hd fresh ⊢
    rw [List.append_assoc, List.singleton_append, List.nodup_middle]
    exact List.nodup_cons.mpr ⟨fresh, hd⟩

/-- A record leaves the store, where the feed permit is not asserted or the record is not FEEDING. -/
theorem dropRecord_keeps {s : State} {id : PackId} {q : PackRecord} (hq : findRecord id s = some q)
    (feed : s.atm.feedPermit = false ∨ q.state ≠ .feeding) : Keeps c p 1 s (dropRecord id s) := by
  obtain ⟨hmem, hqid⟩ := findRecord_some hq
  have hlen := List.length_eraseP_of_mem hmem (p := fun r => decide (r.id = id)) (by simpa using hqid)
  have hpos := List.length_pos_of_mem hmem
  have hsub : (s.store.records.eraseP (fun r => decide (r.id = id))).Sublist s.store.records := List.eraseP_sublist
  refine .ofStore (s := s) (fun b hb => by cases b <;> simp at hb <;> simp [sameBlock]) (fun _ => (putRecords_is _ s).formed)
    (fun hs => ?_) ?_ (fun hb _ hf => ?_) (fun hv => hv.congr rfl rfl rfl rfl rfl rfl)
  · obtain ⟨h1, h2⟩ := hs
    refine ⟨?_, ?_⟩
    · simp only [entriesHeld, dropRecord, putRecords, refreshStore, State.withStore_store] at h1 ⊢
      omega
    · exact h2.sublist ((hsub.map _).append (List.Sublist.refl _))
  · simp only [dropRecord, putRecords, refreshStore, State.withStore_store, hlen]
    omega
  · rcases feed with hp | hn
    · exact .of_dropped hp
    · refine hf.withRecords rfl rfl rfl rfl fun _ _ r hr h1 h2 => ⟨r, ?_, h1, h2⟩
      have hne : r.id ≠ id := fun h => by
        obtain rfl := hb.record_unique hr hmem (h.trans hqid.symm)
        exact hn h1
      exact (List.mem_eraseP_of_neg (by simpa using hne)).mpr hr

/-! ## Notes, counts and frames of the store -/

theorem handoffNote_keeps (id : PackId) (n : Nat) (o : HandoffOutcome) (s : State) : Keeps c p 0 s (handoffNote id n o s) :=
  .withStore

theorem countUnmatched_keeps (s : State) : Keeps c p 0 s (countUnmatched s) := .withStore

theorem raiseStreak_keeps (n : Nat) (s : State) : Keeps c p 0 s (raiseStreak n s) :=
  (setPeer_keeps n _ s).andThen .withStore

theorem clearStreak_keeps (n : Nat) (s : State) : Keeps c p 0 s (clearStreak n s) := setPeer_keeps _ _ s

/-- The oldest record of a pack ID, found and not FEEDING, comes to HELD or READY. -/
theorem holdRecord_keeps {s : State} {id : PackId}
    (h : s.cfg.role ≠ .chamber ∨ (∃ i, s.engine.bound = some i) ∨ ∃ q, findRecord id s = some q ∧ q.state ≠ .feeding) :
    Keeps c p 0 s (holdRecord id s) := by
  have hu : ∀ st : RecordState, Keeps c p 0 s (updateRecord id (fun r => r.into st) s) := fun st => by
    rcases h with h | ⟨i, h⟩ | ⟨q, h, hn⟩
    · exact updateRecord_keeps_of_role h
    · exact updateRecord_keeps_of_bound h
    · exact updateRecord_keeps_of_state (findRecord_some h).1 (findRecord_some h).2 hn
  unfold holdRecord
  split
  · exact .refl s
  · exact .ite (fun _ => (hu .ready).andThen (raise_keeps _ _)) fun _ => hu .held

theorem handBack_keeps (s : State) : Keeps c p 0 s (handBack s) := by
  unfold handBack
  split
  · next i hb => exact (holdRecord_keeps (.inr (.inl ⟨i, hb⟩))).andThen (enterIdle_keeps _)
  · exact enterIdle_keeps s

theorem enterFault_keeps {s : State} (f : FaultCause) (h : s.engine.state ≠ .idle) : Keeps c p 0 s (enterFault f s) :=
  ((((raise_keeps _ _).after (endNote_keeps _ _)).after (updateBound_keeps _ _)).after
    (enterOpened_keeps h rfl rfl rfl rfl rfl))

/-! ## Offers -/

theorem firstSend_keeps {s : State} {r : PackRecord} (n : Nat) (hr : r ∈ s.store.records) (h : r.state = .ready) :
    Keeps c p 0 s (firstSend r n s) :=
  ((placeHandoff_keeps _ _).after .withStore).after
    (updateRecord_keeps_of_state hr rfl (by rw [h]; decide) fun _ _ => rfl)

end Sys2Proof.Machine
end

section
/-! PROOF. What the operations of the Atmosphere Unit and the Zone Unit keep, a change of the own level and the entry into
CLASHED among them. -/

namespace Sys2Proof.Machine

open Sys2Proof

set_option Elab.async false

variable {c : Instr} {p : Part}

/-! ## The Atmosphere Unit -/

theorem feedNote_keeps (i : PackId) (o : FeedOutcome) (s : State) : Keeps c p 0 s (feedNote i o s) :=
  .withAtm rfl id fun h => h.congr rfl rfl rfl rfl rfl rfl

/-- Another Pack Store, its permit and sums formed afresh, where the feed permit drops. -/
theorem refreshed_dropFeed_keeps {k : Int} {s : State} {x : PackStore} (l : PermitLoss)
    (formed : StoreFormed (s.withStore x)) (bounded : StoreBounded s → StoreBounded (s.withStore x))
    (held : (s.store.records.length : Int) = x.records.length + k) : Keeps c p k s (dropFeed l (s.withStore x)) := by
  rw [dropFeed_is]
  exact .ofStore (fun b hb => by cases b <;> simp at hb <;> simp [sameBlock])
    (fun _ => formed.congr rfl rfl rfl rfl rfl)
    (fun h => (bounded h).congr rfl rfl) held (fun _ _ _ => .of_dropped rfl)
    (fun h => h.congr rfl rfl rfl rfl rfl rfl)

/-- A change of the atmosphere state, up to the feed permit. -/
theorem atmState_keeps (st : AtmState) (s : State) :
    Keeps c p 0 s (if st = .inert ∨ st = .watch then refreshStore (s.withAtm (s.atm.enter st))
      else dropFeed .atmosphere (refreshStore (s.withAtm (s.atm.enter st)))) := by
  have hf : StoreFormed (refreshStore (s.withAtm (s.atm.enter st))) := (refreshStore_is _).formed
  have hv : ValvesFollow s → ValvesFollow (refreshStore (s.withAtm (s.atm.enter st))) := fun h => ⟨rfl, rfl, rfl, h.select⟩
  refine .ite (fun hst => ?_) fun _ => ?_
  · refine .ofStore (fun b hb => by cases b <;> simp at hb <;> simp [sameBlock]) (fun _ => hf)
      (fun h => h.congr rfl rfl) (by simp [refreshStore]) (fun _ _ h hp => ?_) hv
    obtain ⟨h1, _, h3, h4, h5⟩ := h hp
    exact ⟨h1, by simpa [atmosphereFeeds, Atmosphere.enter] using hst, h3, h4, h5⟩
  · rw [dropFeed_is]
    exact .ofStore (fun b hb => by cases b <;> simp at hb <;> simp [sameBlock])
      (fun _ => hf.congr rfl rfl rfl rfl rfl)
      (fun h => h.congr rfl rfl) (by simp [refreshStore]) (fun _ _ _ => .of_dropped rfl)
      (fun h => (hv h).congr rfl rfl rfl rfl rfl rfl)

theorem noteAtm_keeps (n : AtmNoteCause) (s : State) : Keeps c p 0 s (noteAtm n s) :=
  (raise_keeps _ _).after (.withAtm rfl id fun h => h.congr rfl rfl rfl rfl rfl rfl)

theorem changeAtm_keeps (st : AtmState) (n : AtmNoteCause) (s : State) : Keeps c p 0 s (changeAtm st n s) := by
  refine (noteAtm_keeps n _).after ((atmState_keeps st s).andThen ?_)
  exact .ite (fun _ => tallyWatch_keeps _) fun _ => .ite (fun _ => closeLot_keeps _ _) fun _ => .refl _

/-- A change of the Atmosphere Unit's timers, causes, sensors and counts. -/
theorem Keeps.ofAtmCounts {s : State} {x : Atmosphere} (state : x.state = s.atm.state := by rfl)
    (feedPermit : x.feedPermit = true → s.atm.feedPermit = true := by exact id)
    (purge : x.purgeValve = s.atm.purgeValve := by rfl)
    (makeUp : x.makeUpValve = s.atm.makeUpValve := by rfl) (boost : x.boost = s.atm.boost := by rfl)
    (select : x.supplySelect = s.atm.supplySelect := by rfl) (supply : x.supply = s.atm.supply := by rfl) :
    Keeps c p 0 s (s.withAtm x) :=
  .withAtm state feedPermit fun h => h.congr state purge makeUp boost select supply

theorem enterTrip_keeps (x : TripCause) (s : State) : Keeps c p 0 s (enterTrip x s) :=
  ((changeAtm_keeps _ _ _).after .ofAtmCounts).after .ofAtmCounts

theorem enterPurging_keeps (s : State) : Keeps c p 0 s (enterPurging s) := (changeAtm_keeps _ _ _).after .ofAtmCounts

theorem enterOpen_keeps (s : State) : Keeps c p 0 s (enterOpen s) := (changeAtm_keeps _ _ _).after .ofAtmCounts

theorem testInert_keeps (s : State) : Keeps c p 0 s (testInert s) := by
  unfold testInert
  refine .ite (fun _ => ?_) fun _ => .refl s
  split
  · exact enterTrip_keeps _ s
  · split
    · exact .ite (fun _ => changeAtm_keeps _ _ s) fun _ => .refl s
    · exact .ite (fun _ => changeAtm_keeps _ _ s) fun _ => .refl s

theorem testPurging_keeps (s : State) : Keeps c p 0 s (testPurging s) :=
  .ite (fun _ => .ite (fun _ => enterTrip_keeps _ s)
    fun _ => .ite (fun _ => (changeAtm_keeps _ _ _).after .ofAtmCounts) fun _ => .refl s) fun _ => .refl s

theorem changeSupply_keeps (x : Supply) (n : SupplyNote) (s : State) : Keeps c p 0 s (changeSupply x n s) :=
  (raise_keeps _ _).after (.withAtm rfl id fun h => ⟨h.purge, h.makeUp, h.boost, rfl⟩)

theorem takeSupply_keeps (s : State) : Keeps c p 0 s (takeSupply s) := by
  have both : Keeps c p 0 s (s.withAtm { s.atm with bothLow := false }) := .ofAtmCounts
  unfold takeSupply
  refine .ite (fun _ => .ite (fun _ => .refl s) fun _ => (raise_keeps _ _).after .ofAtmCounts) fun _ => ?_
  exact .ite (fun _ => (changeSupply_keeps _ _ _).after both)
    fun _ => .ite (fun _ => (changeSupply_keeps _ _ _).after both) fun _ => both

theorem atmosphereHandover_keeps (s : State) : Keeps c p 0 s (atmosphereHandover s) :=
  .ite (fun _ => .ite (fun _ => ((testInert_keeps _).after (testPurging_keeps _)).after (takeSupply_keeps s))
    fun _ => (takeSupply_keeps _).after (.ite (fun _ => .refl s) fun _ => enterOpen_keeps s)) fun _ => .refl s

theorem judgeSensors_keeps (s : State) : Keeps c p 0 s (judgeSensors s) :=
  .ite (fun _ => (tallyPeak_keeps _).after .ofAtmCounts) fun _ => .refl s

/-! ## A change of the own level -/

/-- An order to unload and a recomputed target, as the engine they leave. -/
theorem ordered_keeps (q : UnloadPurpose) (s : State) : Keeps c p 0 s (s.withEngine (s.engine.ordered q)) := by
  rw [← orderUnload_is]
  exact orderUnload_keeps q s

theorem retargeted_keeps (s : State) : Keeps c p 0 s (s.withEngine (retargeted s)) := by
  rw [← recomputeUnderLoad_is]
  exact recomputeUnderLoad_keeps s

/-- The engine at a change of the own level: three ways it may stand, each kept. -/
theorem levelEngine_keeps {l : ZoneLevel} {Z : Zone} {s : State} {E : Engine}
    (h : E = if risesToAlarm s.zone.level l then s.engine.ordered (.handBack .alarm)
      else if 2 ≤ levelRank l then s.engine else retargeted { s with zone := Z }) :
    Keeps c p 0 { s with zone := Z } ({ s with zone := Z }.withEngine E) := by
  subst h
  split
  · exact ordered_keeps _ { s with zone := Z }
  · split
    · exact .refl _
    · exact retargeted_keeps _

/-- A change of the own level, from a zone whose suppression may just have been deasserted: RELEASED is entered at the end
of a countdown alone, and COUNTDOWN where the output is owned. -/
theorem LevelChanged.keeps {l : ZoneLevel} {flag x : Bool} {cause : Option ZoneCause} {o : Origin} {s t : State}
    (h : LevelChanged l flag cause o (s.withZone { s.zone with suppression := x }) t)
    (asserted : x = true → s.zone.suppression = true)
    (deasserted : SuppressionSafe s → x = true → l = .released)
    (released : l = .released → p = .due ∧ CountdownEnded s) (owned : l = .countdown → s.cfg.suppressionOwned = true) :
    Keeps c p 0 s t := by
  have hcfg : t.cfg = s.cfg := h.others .cfg (by decide)
  have hstart : t.start = s.start := h.others .start (by decide)
  have hpeers : t.peers = s.peers := h.others .peers (by decide)
  have hlevel : t.zone.level = l := by rw [h.zone]
  have hsupp : t.zone.suppression = (x || decide (l = .released)) := by rw [h.zone]; rfl
  have hcount : t.zone.countdown = decide (l = .countdown) := by rw [h.zone]
  have hdue : t.zone.endDue = false := by rw [h.zone]
  have hE := levelEngine_keeps (c := c) (p := p) (s := s) h.engine
  have hL := (placeAlarm_keeps (c := c) (p := p) (alarmFrameOf s l flag cause)
    (s.withZone { s.zone with suppression := x })).andThen
    (placedAll_keeps (if risesToAlarm s.zone.level l then alarmCancels (s.withZone { s.zone with suppression := x }) else []) _)
  rw [placeAlarm_is] at hL
  have hlinkState : t.link.state = s.link.state := by
    rw [h.link, placedAll_state]
    exact withAlarm_state _ _
  have hport : (AttentionFollows s → AttentionFollows t) ∧ t.port.pendingReply = s.port.pendingReply := by
    have hP : ∀ u : State, Keeps c .act 0 s u → t.port = (raise .zoneChange u).port →
        (AttentionFollows s → AttentionFollows t) ∧ t.port.pendingReply = s.port.pendingReply := fun u hu ht => by
      have hk := hu.andThen (raise_keeps .zoneChange u)
      exact ⟨fun hs => (hk.attention hs).congr (by rw [ht]) (by rw [ht]) (by rw [ht]), ht ▸ hk.reply (by decide)⟩
    have hr : t.port = (raise .zoneChange
        (s.withPort (if risesToAlarm s.zone.level l then lotClosedPort s else s.port))).port := h.port
    refine hP _ ?_ hr
    split
    · exact lotClosedPort_keeps rfl
    · exact .refl s
  have hrecords : t.store.records.map (fun r => r.id) = s.store.records.map (fun r => r.id) := by
    rw [h.store]
    simp only
    split
    · rw [List.map_map]
      refine List.map_congr_left fun r _ => ?_
      simp only [Function.comp]
      split_ifs <;> rfl
    · rfl
  have hlen : t.store.records.length = s.store.records.length := by simpa using congrArg List.length hrecords
  have hreservations : t.store.reservations.Sublist s.store.reservations := by
    rw [h.store]
    simp only
    split
    · exact List.nil_sublist _
    · exact List.Sublist.refl _
  have htally : t.tally = if risesToAlarm s.zone.level l then s.tally.lotClosed .alarm else s.tally := h.tally
  have hcounts : t.tally.marked = s.tally.marked ∧ t.tally.balance = s.tally.balance := by
    rw [htally]
    split
    · exact lotClosed_counts .alarm s.tally
    · exact ⟨rfl, rfl⟩
  exact {
    engine := fun hs => (hE.engine (hs.congr rfl)).congr rfl
    opened := fun hc hs ho => hE.opened hc (hs.congr rfl) ho
    bay := fun hs => (hE.bay (hs.congr rfl rfl)).congr hcfg rfl
    formed := fun _ => h.store.formed
    link := fun hs => (hL.link (hs.congr rfl)).congr h.link
    bounded := fun hs => ⟨by
        have := hs.entries
        have := hreservations.length_le
        simp only [entriesHeld, hlen] at *
        omega, by
        have hd := hs.distinct
        simp only [packIds, hrecords] at hd ⊢
        exact hd.sublist ((List.Sublist.refl _).append (hreservations.map _))⟩
    balanced := fun d hd => by rw [add_zero]; exact hd.congr hcounts.1 hcounts.2 hlen
    journal := fun hs => by
      by_cases hr : risesToAlarm s.zone.level l
      · have hj := (closeLot_keeps (c := c) (p := p) .alarm s).journal hs
        rw [closeLot_is] at hj
        exact hj.congr (by rw [htally, if_pos hr]) (by rw [htally, if_pos hr])
      · exact hs.congr (by rw [htally, if_neg hr]) (by rw [htally, if_neg hr])
    feed := fun _ _ hs => by
      by_cases hn : l = .normal
      · subst hn
        have ha : t.atm = s.atm := h.atm.trans (if_pos rfl)
        have hr : ¬risesToAlarm s.zone.level .normal := fun h => absurd h.2 (by decide)
        intro hp
        obtain ⟨h1, h2, _, h4, h5⟩ := hs (ha ▸ hp)
        refine ⟨by rwa [hcfg], by simpa [atmosphereFeeds, ha] using h2, hlevel, hlinkState.trans h4, ?_⟩
        rw [h.store]
        simpa [hr] using h5
      · exact .of_dropped (by rw [h.atm, if_neg hn]; rfl)
    suppression := fun hs => by
      refine ⟨?_, by rw [hcount, hlevel], fun ht => ?_⟩
      · rw [hsupp, hlevel]
        cases hx : x
        · rfl
        · rw [deasserted hs hx]; rfl
      · rw [hlevel] at ht
        rw [hcfg]
        rcases ht with ht | ht
        · exact owned ht
        · exact hs.owned (.inl (released ht).2.1)
    released := fun ht => by
      rw [hsupp, Bool.or_eq_true, decide_eq_true_eq] at ht
      exact ht.imp asserted released
    ended := fun _ ht => by rw [ht.2] at hdue; cases hdue
    valves := fun hs => by
      have ha : t.atm = s.atm ∨ t.atm = feedDropped .zone s := by
        by_cases hn : l = .normal
        · exact .inl (h.atm.trans (if_pos hn))
        · exact .inr (h.atm.trans (if_neg hn))
      rcases ha with ha | ha <;> exact hs.congr (by simp [ha, feedDropped]) (by simp [ha, feedDropped])
        (by simp [ha, feedDropped]) (by simp [ha, feedDropped]) (by simp [ha, feedDropped]) (by simp [ha, feedDropped])
    attention := hport.1
    reply := fun _ => hport.2
    cfg := hcfg
    uniqueId := h.others .uniqueId (by decide)
    pending := h.others .pending (by decide)
    start := .inl hstart
    count := fun _ => by rw [hpeers] }

/-- A change of the own level: RELEASED is entered at the end of a countdown alone and left by `fallToNormal` alone, and
COUNTDOWN is entered where the output is owned. -/
theorem changeLevel_keeps {l : ZoneLevel} {s : State} (flag : Bool) (cause : Option ZoneCause) (o : Origin)
    (stands : l ≠ .released → s.zone.level ≠ .released) (released : l = .released → p = .due ∧ CountdownEnded s)
    (owned : l = .countdown → s.cfg.suppressionOwned = true) : Keeps c p 0 s (changeLevel l flag cause o s) := by
  refine LevelChanged.keeps (x := s.zone.suppression) (changeLevel_is l flag cause o s) id (fun hs hx => ?_) released owned
  by_contra hn
  rw [hs.released, decide_eq_true_eq] at hx
  exact stands hn hx

/-- RESTORE ZONE: suppression is deasserted as the level falls to NORMAL. -/
theorem restore_keeps (s : State) :
    Keeps c p 0 s (fallToNormal (s.withZone { s.zone with suppression := false })) :=
  LevelChanged.keeps (x := false) (changeLevel_is ..) nofun (fun _ => nofun) nofun nofun

theorem fallToNormal_keeps {s : State} (h : s.zone.level ≠ .released) : Keeps c p 0 s (fallToNormal s) :=
  changeLevel_keeps _ _ _ (fun _ => h) nofun nofun

/-! ## The Zone Unit -/

theorem confirmRise_keeps (cause : ZoneCause) (o : Origin) (s : State) : Keeps c p 0 s (confirmRise cause o s) := by
  unfold confirmRise
  refine .ite (fun _ => .refl s) fun h => ?_
  have hn : s.zone.level ≠ .released := fun hl => h (by rw [hl]; decide)
  split
  · next ho => exact changeLevel_keeps _ _ _ (fun _ => hn) nofun fun _ => ho
  · exact changeLevel_keeps _ _ _ (fun _ => hn) nofun nofun

theorem demanded_le (s : State) : levelRank (demanded s) ≤ 3 := by
  unfold demanded
  split_ifs <;> decide

theorem risingEvaluation_keeps (s : State) : Keeps c p 0 s (risingEvaluation s) := by
  have hd := demanded_le s
  unfold risingEvaluation
  refine .ite (fun h => .ite (fun _ => confirmRise_keeps _ _ s) fun _ => ?_) fun _ => .ite (fun _ => ?_) fun _ => .refl s
  · refine changeLevel_keeps _ _ _ (fun _ hl => ?_) (fun hl => ?_) fun hl => ?_
    · rw [hl] at h
      exact absurd (h.trans_le hd) (by decide)
    · rw [hl] at hd
      exact absurd hd (by decide)
    · rw [hl] at hd
      exact absurd hd (by decide)
  · exact ((raise_keeps _ _).after .withZone).after
      ((placeAlarm_keeps _ _).after .withZone)

theorem refreshStrict_keeps (s : State) : Keeps c p 0 s (refreshStrict s) := .withZone

theorem strictChanged_keeps (s : State) : Keeps c p 0 s (strictChanged s) :=
  .ite (fun _ => (risingEvaluation_keeps _).after (refreshStrict_keeps s)) fun _ => refreshStrict_keeps s

theorem zoneTakesStore_keeps (s : State) : Keeps c p 0 s (zoneTakesStore s) :=
  (strictChanged_keeps _).after .withZone

theorem memberRise_keeps (l : ZoneLevel) (o : Origin) (s : State) : Keeps c p 0 s (memberRise l o s) :=
  .ite (fun _ => confirmRise_keeps _ _ s) fun _ => .ite
    (fun h => changeLevel_keeps _ _ _ (fun _ hl => by rw [hl] at h; exact absurd h.2 (by decide)) nofun nofun) fun _ => .refl s

theorem peerHandover_keeps (n : Nat) (s : State) : Keeps c p 0 s (peerHandover n s) := by
  have h : Keeps c p 0 s (s.withZone { s.zone with taken := set1 s.zone.taken n (memberLevel s n) }) :=
    .withZone
  exact ((risingEvaluation_keeps _).after (refreshStrict_keeps _)).after
    (.ite (fun _ => (memberRise_keeps _ _ _).after h) fun _ => h)

/-- The countdown falls in an act alone: the steps due never bring its end. -/
theorem zoneHandover_keeps (s : State) : Keeps c .act 0 s (zoneHandover s) := by
  have hcount : ∀ u : State, Keeps c .act 0 u (takeCountdown u) := fun u =>
    .ite (fun _ => .refl u) fun _ => .withZone (ended := nofun)
  have h3 := (risingEvaluation_keeps _).after
    (Keeps.ite (q := s.zone.level = .countdown) (fun _ => (hcount _).after (refreshStrict_keeps s))
      fun _ => refreshStrict_keeps (c := c) (p := .act) s)
  exact .ite (fun h => (changeLevel_keeps (l := .normal) _ _ _ (fun _ hl => by rw [h.1] at hl; cases hl) nofun nofun).after h3) fun _ => h3

theorem takeCountdownEnd_keeps (s : State) : Keeps c .due 0 s (takeCountdownEnd s) :=
  .ite (fun h => changeLevel_keeps _ _ _ (fun h => absurd rfl h) (fun _ => ⟨rfl, h⟩) nofun) fun _ => .refl s

theorem isolationAlarm_keeps (s : State) : Keeps c p 0 s (isolationAlarm s) :=
  (confirmRise_keeps _ _ _).after .withZone

theorem isolationFailed_keeps (s : State) : Keeps c p 0 s (isolationFailed s) :=
  (((raise_keeps _ _).after (endNote_keeps _ _)).after (isolationAlarm_keeps _)).after (updateBound_keeps _ s)

theorem isolateCheck_keeps {s : State} (h : s.engine.state ≠ .idle) : Keeps c p 0 s (isolateCheck s) := by
  unfold isolateCheck
  split
  · exact .ite (fun _ => enterFault_keeps _ h) fun _ => isolationFailed_keeps s
  · exact isolationFailed_keeps s

/-! ## Entry into CLASHED -/

theorem enterClashed_keeps (cause : ClashCause) (hcause : cause ≠ .none) (s : State) :
    Keeps c p 0 s (enterClashed cause s) := by
  by_cases hc : s.link.state = .clashed
  · unfold enterClashed
    rw [if_pos hc]
    exact .refl s
  have h := enterClashed_is cause (link_active hc)
  generalize enterClashed cause s = t at h
  have hcfg : t.cfg = s.cfg := h.others .cfg (by decide)
  have hstart : t.start = s.start := h.others .start (by decide)
  have hzone : t.zone = s.zone := h.others .zone (by decide)
  have htally : t.tally = s.tally := h.others .tally (by decide)
  have hE := ordered_keeps (c := c) (p := p) (.handBack .clashed) s
  have hP := raise_keeps (c := c) (p := p) .peerChange s
  have hrecords : t.store.records = s.store.records := by rw [h.store]
  have hreservations : t.store.reservations = s.store.reservations := by rw [h.store]
  exact {
    engine := fun hs => (hE.engine hs).congr h.engine
    opened := fun hc hs ho => by rw [h.engine]; exact hE.opened hc hs ho
    bay := fun hs => (hE.bay hs).congr hcfg h.engine
    formed := fun _ => h.store.formed
    link := fun hs => by
      constructor <;> simp only [h.link]
      · exact Nat.zero_le _
      · exact hs.sequence
      · exact Nat.zero_le _
      · exact fun _ => trivial
      · simp [hcause]
      · simp
    bounded := fun hs => hs.congr hrecords hreservations
    balanced := fun d hd => by rw [add_zero]; exact hd.congr (by rw [htally]) (by rw [htally]) (by rw [hrecords])
    journal := fun hs => hs.congr (by rw [htally]) (by rw [htally])
    feed := fun _ _ _ => .of_dropped (by rw [h.atm]; rfl)
    suppression := fun hs => hs.congr hcfg (by rw [hzone]) (by rw [hzone]) (by rw [hzone])
    released := fun ht => .inl (hzone ▸ ht)
    ended := fun _ ht => by unfold CountdownEnded at *; rwa [hzone] at ht
    valves := fun hs => hs.congr (by rw [h.atm]; rfl) (by rw [h.atm]; rfl) (by rw [h.atm]; rfl) (by rw [h.atm]; rfl)
      (by rw [h.atm]; rfl) (by rw [h.atm]; rfl)
    attention := fun hs => (hP.attention hs).congr (by rw [h.port]) (by rw [h.port]) (by rw [h.port])
    reply := fun hp => by rw [h.port]; exact hP.reply hp
    cfg := hcfg
    uniqueId := h.others .uniqueId (by decide)
    pending := h.others .pending (by decide)
    start := .inl hstart
    count := fun _ => by rw [h.peers] }

end Sys2Proof.Machine
end

section
/-! PROOF. What the exchanges with the peers, the steps of the engine and the steps due keep. -/

namespace Sys2Proof.Machine

open Sys2Proof

set_option Elab.async false

variable {c : Instr} {p : Part}

/-! ## What ends an exchange -/

theorem endExchanges_keeps (n : Nat) (s : State) : Keeps c p 0 s (endExchanges n s) := by
  have h1 : Keeps c p 0 s (putReservations (s.store.reservations.filter (fun v => decide (v.station ≠ n))) s) :=
    putReservations_keeps List.filter_sublist
  have h2 := h1.andThen (.foldl (fun s (v : Reservation) => placeCancel_keeps n v.packId v.offerNumber .peerRestart s)
    (s.store.reservations.filter (fun v => decide (v.station = n))) _)
  refine Keeps.after (.foldl (fun s r => ?_) _ _) (Keeps.after (putRecords_keeps ?_ fun _ _ _ _ r hr hf hm => ?_) h2)
  · exact (placeCancel_keeps _ _ _ _ _).after (.ite (fun _ => raise_keeps _ s) fun _ => .refl s)
  · rw [List.map_map]
    refine List.map_congr_left fun r _ => ?_
    simp only [Function.comp]
    split <;> rfl
  · exact ⟨r, List.mem_map.mpr ⟨r, hr, if_neg (by simp [PackRecord.exchangesWith, hf])⟩, hf, hm⟩

theorem peerRestart_keeps (n epoch : Nat) (s : State) : Keeps c p 0 s (peerRestart n epoch s) :=
  (((peerHandover_keeps _ _).after (peerChange_keeps _ _ _)).after (endExchanges_keeps _ _)).after (setPeer_keeps _ _ _)

theorem takeNewJoin_keeps (f : JoinFrame) (s : State) : Keeps c p 0 s (takeNewJoin f s) := by
  unfold takeNewJoin
  split <;> exact ((peerHandover_keeps _ _).after (peerChange_keeps _ _ _)).after (setPeer_keeps _ _ _)

theorem takeJoin_keeps (f : JoinFrame) (s : State) : Keeps c p 0 s (takeJoin f s) := by
  unfold takeJoin takeAdmittedJoin
  refine .ite (fun _ => ?_) fun _ => takeNewJoin_keeps f s
  refine .ite (fun _ => (peerChange_keeps _ _ _).after (setPeer_keeps _ _ _)) fun _ => .ite (fun _ => ?_) fun _ =>
    (takeNewJoin_keeps f _).after (peerRestart_keeps _ _ s)
  exact .ite (fun _ => .refl s) fun _ => setPeer_keeps _ _ s

theorem takePeerState_keeps (f : StateFrame) (s : State) : Keeps c p 0 s (takePeerState f s) := by
  have h : Keeps c p 0 s (s.setPeer f.station ((s.peer f.station).takeState f)) := setPeer_keeps _ _ s
  exact (peerHandover_keeps _ _).after (.ite (fun _ => (addEcho_keeps _ _).after h) fun _ => h)

theorem takeState_keeps (f : StateFrame) (s : State) : Keeps c p 0 s (takeState f s) := by
  have h := examineUnheard_keeps (c := c) (p := p) f s
  unfold takeState
  refine .ite (fun _ => .ite (fun _ => ?_) fun _ => .ite (fun _ => ?_) fun _ => ?_) fun _ => ?_
  · exact ((setPeer_keeps _ _ _).after (peerRestart_keeps _ _ _)).after h
  · exact (takePeerState_keeps f _).after h
  · exact (setPeer_keeps _ _ _).after h
  · exact (setPeer_keeps _ _ _).after h

theorem examineListed_keeps (n : Nat) (s : State) : Keeps c p 0 s (examineListed n s) :=
  .ite (fun _ => (((peerHandover_keeps _ _).after (peerChange_keeps _ _ _)).after (endExchanges_keeps _ _)).after
    (setPeer_keeps _ _ _)) fun _ => .refl s

theorem examineAllListed_keeps (s : State) : Keeps c p 0 s (examineAllListed s) :=
  .foldl (fun s n => examineListed_keeps n s) _ s

/-- A frame of the Pack Store or the Zone Unit, taken from an ADMITTED sender. -/
theorem fromAdmitted_keeps {n : Nat} {act : State → State} (h : ∀ s, Keeps c p 0 s (act s)) (s : State) :
    Keeps c p 0 s (fromAdmitted n act s) := .ite (fun _ => h s) fun _ => setPeer_keeps _ _ s

theorem takeAlarm_keeps (f : AlarmFrame) (s : State) : Keeps c p 0 s (takeAlarm f s) := by
  unfold takeAlarm
  refine .ite (fun _ => .refl s) fun _ => ?_
  split
  · exact .refl s
  · exact .ite (fun _ => .refl s) fun _ => confirmRise_keeps _ _ s
  all_goals exact memberRise_keeps _ _ s

theorem judgeAlarm_keeps (f : AlarmFrame) (s : State) : Keeps c p 0 s (judgeAlarm f s) :=
  .ite (fun _ => takeAlarm_keeps f s) fun _ => setPeer_keeps _ _ s

/-! ## Handoff frames -/

theorem entriesHeld_fresh {s : State} {id : PackId} (h1 : findRecord id s = none) (h2 : findReservation id s = none) :
    id ∉ packIds s := by
  simp only [findRecord, findReservation, List.find?_eq_none, decide_eq_true_eq] at h1 h2
  simp only [packIds, List.mem_append, List.mem_map, not_or]
  exact ⟨fun ⟨r, hr, he⟩ => h1 r hr he, fun ⟨v, hv, he⟩ => h2 v hv he⟩

/-- The tests of an OFFER that passes: the pack ID is new, and there is room. -/
theorem offerTests_none {h : HandoffHead} {d : PackData} {s : State} (ht : offerTests h d s = none) :
    findRecord h.packId s = none ∧ findReservation h.packId s = none ∧ entriesHeld s < 8 := by
  unfold offerTests at ht
  split at ht
  · cases ht
  · next h1 =>
    split at ht
    · cases ht
    · next h2 =>
      simp only [not_or, Bool.not_eq_true, Option.isSome_eq_false_iff, Option.isNone_iff_eq_none] at h1
      exact ⟨h1.1, h1.2, by omega⟩

theorem answerOffer_keeps (f : OfferFrame) (s : State) : Keeps c p 0 s (answerOffer f s) := by
  unfold answerOffer
  refine .ite (fun _ => placeHandoff_keeps _ s) fun _ => .ite (fun _ => placeHandoff_keeps _ s) fun _ => ?_
  split
  · exact placeHandoff_keeps _ s
  · split
    · exact placeHandoff_keeps _ s
    · next ht =>
      obtain ⟨h1, h2, h3⟩ := offerTests_none ht
      exact ((handoffNote_keeps _ _ _ _).after (placeHandoff_keeps _ _)).after
        (Keeps.after .withStore (addReservation_keeps (by omega) (entriesHeld_fresh h1 h2)))

theorem takeOffer_keeps (f : OfferFrame) (s : State) : Keeps c p 0 s (takeOffer f s) :=
  (answerOffer_keeps f _).after (.ite (fun _ => .refl s) fun _ => setPeer_keeps _ _ s)

theorem anyMatches_some {h : HandoffHead} {st : RecordState} {s : State} (hm : anyMatches h st s = true) :
    ∃ r ∈ s.store.records, r.id = h.packId ∧ r.state = st := by
  simp only [anyMatches, List.any_eq_true, matchesHead, decide_eq_true_eq] at hm
  obtain ⟨r, hr, h1, h2, _⟩ := hm
  exact ⟨r, hr, h1, h2⟩

/-- Any change of the record that a handoff frame matches, in a state other than FEEDING. -/
theorem updateMatched_keeps {h : HandoffHead} {st : RecordState} {s : State} {f : PackRecord → PackRecord}
    (hm : anyMatches h st s = true) (hst : st ≠ .feeding)
    (hid : ∀ r, r.id = h.packId → (f r).id = h.packId := by intro _ h; exact h) :
    Keeps c p 0 s (updateRecord h.packId f s) := by
  obtain ⟨r, hr, h1, rfl⟩ := anyMatches_some hm
  exact updateRecord_keeps_of_state hr h1 hst hid

theorem takeGrant_keeps (h : HandoffHead) (s : State) : Keeps c p 0 s (takeGrant h s) :=
  .ite (fun hm => ((handoffNote_keeps _ _ _ _).after (clearStreak_keeps _ _)).after
      (updateMatched_keeps hm (by decide)))
    fun _ => .ite (fun _ => .refl s) fun _ => countUnmatched_keeps s

theorem takeRefuse_keeps (f : RefuseFrame) (s : State) : Keeps c p 0 s (takeRefuse f s) := by
  unfold takeRefuse
  refine .ite (fun hm => ?_) fun _ => countUnmatched_keeps s
  have h : Keeps c p 0 s
      (updateRecord f.head.packId (fun r => { r.into .ready with backOff := some 10 }) s) :=
    updateMatched_keeps hm (by decide)
  exact (handoffNote_keeps _ _ _ _).after (.ite (fun _ => (raiseStreak_keeps _ _).after h) fun _ => h)

/-- Any change of a record where the feed permit drops with it. -/
theorem updateRecord_dropFeed_keeps {id : PackId} {f : PackRecord → PackRecord} (l : PermitLoss) (s : State)
    (hid : ∀ r, r.id = id → (f r).id = id := by intro _ h; exact h) : Keeps c p 0 s (dropFeed l (updateRecord id f s)) := by
  refine refreshed_dropFeed_keeps l (updateRecord_is id f s).formed (fun h => ?_) (by simp)
  have hk := updateRecord_keeps_of_dropped (c := c) (p := p) (s := s.withAtm { s.atm with feedPermit := false }) (hid := hid) rfl
  exact (hk.bounded (h.congr rfl rfl)).congr rfl rfl

theorem markDisputed_keeps (id : PackId) (s : State) : Keeps c p 0 s (markDisputed id s) := by
  unfold markDisputed
  refine (raise_keeps _ _).after ?_
  split
  · exact updateRecord_dropFeed_keeps .mark s
  · next hn =>
    refine updateRecord_keeps fun hb _ _ _ r hr hid h1 _ => absurd ?_ hn
    cases hq : findRecord id s with
    | none => exact absurd hid (by simpa using List.find?_eq_none.mp hq r hr)
    | some q =>
      obtain ⟨hqm, hqid⟩ := findRecord_some hq
      obtain rfl := hb.record_unique hr hqm (hid.trans hqid.symm)
      simpa using h1

theorem recordTaken_keeps {f : TakenFrame} {s : State} {q : PackRecord} (hq : findRecord f.head.packId s = some q)
    (hn : q.state ≠ .feeding) : Keeps c p 0 s (recordTaken f s) := by
  have h := ((dropRecord_keeps (c := c) (p := p) hq (.inr hn)).trans (countReleased_keeps _)).andThen (zoneTakesStore_keeps _)
  exact ((raise_keeps _ _).after (handoffNote_keeps _ _ _ _)).after (by simpa using h)

theorem takeTaken_keeps (f : TakenFrame) (s : State) : Keeps c p 0 s (takeTaken f s) := by
  unfold takeTaken
  dsimp only
  split
  · exact countUnmatched_keeps s
  · next q hq =>
    refine .ite (fun h => recordTaken_keeps hq fun hf => ?_) fun _ => ?_
    · simp [hf] at h
    · exact ((handoffNote_keeps _ _ _ _).after (placeCancel_keeps _ _ _ _ _)).after (markDisputed_keeps _ s)

theorem recordInto_keeps {h : HandoffHead} {st from' : RecordState} {s : State} (hm : anyMatches h from' s = true)
    (hf : from' ≠ .feeding) : Keeps c p 0 s (recordInto h st s) := by
  have hu : Keeps c p 0 s (updateRecord h.packId (fun r => r.into st) s) := updateMatched_keeps hm hf
  exact .ite (fun _ => (raise_keeps _ _).after hu) fun _ => hu

theorem cancelAction_keeps {f : CancelFrame} {s t : State} (h : cancelAction f s = some t) : Keeps c p 0 s t := by
  have drop : ∀ {o : Option Reservation} {t : State}, o.map (fun v => dropReservation v s) = some t → Keeps c p 0 s t := by
    intro o t h
    obtain ⟨v, _, rfl⟩ := Option.map_eq_some_iff.mp h
    exact dropReservation_keeps v s
  have into : ∀ {a b x y : RecordState} {t : State}, a ≠ .feeding → b ≠ .feeding →
      (if anyMatches f.head a s then some (recordInto f.head x s)
        else if anyMatches f.head b s then some (recordInto f.head y s) else none) = some t → Keeps c p 0 s t := by
    intro a b x y t ha hb h
    split at h
    · next hm => obtain rfl := Option.some.inj h; exact recordInto_keeps hm ha
    · split at h
      · next hm => obtain rfl := Option.some.inj h; exact recordInto_keeps hm hb
      · cases h
  unfold cancelAction at h
  split at h
  · exact drop h
  · exact into (by decide) (by decide) h
  · exact into (by decide) (by decide) h
  · obtain ⟨q, _, rfl⟩ := Option.map_eq_some_iff.mp h
    exact markDisputed_keeps _ s
  · dsimp only at h
    split at h
    · obtain rfl := Option.some.inj h
      exact dropReservation_keeps _ s
    · exact into (by decide) (by decide) h

theorem takeCancel_keeps (f : CancelFrame) (s : State) : Keeps c p 0 s (takeCancel f s) := by
  unfold takeCancel
  split
  · next h => exact (handoffNote_keeps _ _ _ _).after (cancelAction_keeps h)
  · exact countUnmatched_keeps s

/-! ## The period -/

theorem examineOffer_keeps (divert : Bool) (s : State) : Keeps c p 0 s (examineOffer divert s) := by
  unfold examineOffer
  split
  · exact .refl s
  · next r hr =>
    refine .ite (fun _ => .refl s) fun _ => ?_
    split
    · exact .refl s
    · exact .ite (fun _ => firstSend_keeps _ (List.mem_of_find?_eq_some hr) (by simpa using List.find?_some hr))
        fun _ => .refl s

theorem runningPeriod_keeps (s : State) : Keeps c p 0 s (runningPeriod s) :=
  (examineOffer_keeps _ _).after (placeState_keeps _ s)

theorem advancePeriod_keeps (s : State) : Keeps c .act 0 s (advancePeriod s) :=
  Keeps.after (.withPeers (by nofun)) .withStore

theorem takeEnterRunning_keeps (s : State) : Keeps c .due 0 s (takeEnterRunning s) :=
  .ite (fun h => (runningPeriod_keeps _).after { start := .inr ⟨rfl, h.1, h.2, rfl⟩ }) fun _ => .refl s

theorem takeStartWindowClose_keeps (s : State) : Keeps c p 0 s (takeStartWindowClose s) :=
  .ite (fun _ => .withPeers fun _ => rfl) fun _ => .refl s

theorem takeStreakQuiet_keeps (n : Nat) (s : State) : Keeps c p 0 s (takeStreakQuiet n s) :=
  .ite (fun _ => clearStreak_keeps n s) fun _ => .refl s

/-! ## The engine's steps -/

theorem takeUnloadComplete_keeps (s : State) : Keeps c p 0 s (takeUnloadComplete s) := by
  unfold takeUnloadComplete
  refine .ite (fun h => ?_) fun _ => .refl s
  split
  · exact ((raise_keeps _ _).after (handBack_keeps _)).after (endNote_keeps _ s)
  · exact enterFault_keeps _ (by rw [h.1]; decide)
  · refine .withEngine (fun hs => engineSafe_with rfl rfl (fun _ => rfl) (Nat.zero_le _) hs.targetBound)
      (fun _ => .inl (by rw [h.1]; rfl)) (.inl (by rw [h.1]; decide))

theorem computeResidual_keeps (v : Int) (r : PackRecord) (s : State) : Keeps c p 0 s (computeResidual v r s) :=
  .ite (fun _ => .withResidual s _) fun _ => (Keeps.withResidual _ _).after
    (updateRecord_keeps_of_same)

theorem boundRecord_some {s : State} {r : PackRecord} (h : boundRecord s = some r) : s.engine.bound = some r.id := by
  obtain ⟨id, hb, hf⟩ := Option.bind_eq_some_iff.mp h
  rw [(findRecord_some hf).2]
  exact hb

theorem releasePack_keeps {s : State} {r : PackRecord} (hb : s.engine.bound = some r.id) :
    Keeps c p 0 s (releasePack r s) :=
  (((((raise_keeps _ _).after (enterIdle_keeps _)).after (endNote_keeps _ _)).after (addDischarged_keeps _ _)).after
    (raise_keeps _ _)).after (updateRecord_keeps_of_bound hb)

theorem failRound_keeps {s : State} {r : PackRecord} (hb : s.engine.bound = some r.id) (hs : s.engine.state = .rest) :
    Keeps c p 0 s (failRound r s) := by
  have h1 : Keeps c p 0 s (updateRecord r.id (fun x => { x with data := { x.data with rounds := x.data.rounds + 1 } }) s) :=
    updateRecord_keeps_of_bound hb
  unfold failRound
  refine .ite (fun _ => (enterRamp_keeps ?_).after h1) fun _ => ?_
  · simp [hs, contactorClosed]
  · exact Keeps.after (enterFault_keeps _ (by simp [hs])) ((updateRecord_keeps_of_bound (i := r.id) (by simpa using hb)).after h1)

theorem takeRestTimerExpiry_keeps (s : State) : Keeps c p 0 s (takeRestTimerExpiry s) := by
  unfold takeRestTimerExpiry
  refine .ite (fun h => ?_) fun _ => .refl s
  have h0 : Keeps c p 0 s (onEngine (fun e => { e with restTimer := none }) s) := .ofCounts
  dsimp only
  split
  · next r m hr hm =>
    have hb := boundRecord_some hr
    refine Keeps.after (.ite (fun _ => releasePack_keeps ?_) fun _ => failRound_keeps ?_ ?_)
      ((computeResidual_keeps m.v r _).after h0)
    · simpa using hb
    · simpa using hb
    · simpa [onEngine] using h.1
  · exact h0

theorem connectCheck_keeps {s : State} (m : Reading) (r : PackRecord) (hs : s.engine.state = .connect) :
    Keeps c p 0 s (connectCheck m r s) := by
  have hn : s.engine.state ≠ .idle := by rw [hs]; decide
  have hu : ∀ f : PackData → PackData, (updateBound f s).engine.state ≠ .idle := fun f => by simpa using hn
  exact .ite (fun _ => enterFault_keeps _ hn) fun _ => .ite
    (fun _ => (enterFault_keeps _ (hu _)).after (updateBound_keeps _ s)) fun _ => .ite
    (fun _ => (enterFault_keeps _ (hu _)).after (updateBound_keeps _ s)) fun _ => enterRamp_keeps (by rw [hs]; rfl)

theorem takeContactorCheck_keeps (s : State) : Keeps c p 0 s (takeContactorCheck s) := by
  have h0 : Keeps c p 0 s (onEngine (fun e => { e with checkTimer := none }) s) := .ofCounts
  have hstate : (onEngine (fun e => { e with checkTimer := none }) s).engine.state = s.engine.state := rfl
  unfold takeContactorCheck
  refine .ite (fun _ => ?_) fun _ => .refl s
  dsimp only
  refine .ite (fun hs => ?_) fun _ => .ite (fun hs => ?_) fun _ => h0
  · split
    · exact (connectCheck_keeps _ _ (hstate.trans hs)).after h0
    · exact h0
  · exact (isolateCheck_keeps (by rw [hstate, hs]; decide)).after h0

theorem markHot_keeps (s : State) : Keeps c p 0 s (markHot s) := (zoneTakesStore_keeps _).after (updateBound_keeps _ s)

theorem takePackStop_keeps (s : State) : Keeps c p 0 s (takePackStop s) := by
  unfold takePackStop
  split
  case h_8 | h_9 => exact .refl s
  case h_6 | h_7 => exact markHot_keeps s
  all_goals exact (markHot_keeps _).after (orderUnload_keeps _ s)

theorem engineTakesFilter_keeps (hot stop : Bool) (s : State) : Keeps c p 0 s (engineTakesFilter hot stop s) := by
  have h : Keeps c p 0 s (if hot ≠ channelOut s 5 then recomputeUnderLoad s else s) :=
    .ite (fun _ => recomputeUnderLoad_keeps s) fun _ => .refl s
  unfold engineTakesFilter
  exact .ite (fun _ => (takePackStop_keeps _).after h) fun _ => h

theorem integrateSample_keeps (m : Reading) (s : State) : Keeps c p 0 s (integrateSample m s) :=
  .ite (fun _ => .ite (fun _ => .ofCounts) fun _ => .ite (fun _ => updateBound_keeps _ s) fun _ => .refl s) fun _ => .refl s

theorem testPolarity_keeps (m : Reading) (s : State) : Keeps c p 0 s (testPolarity m s) :=
  .ite (fun _ => (orderUnload_keeps _ _).after (updateBound_keeps _ s)) fun _ => .refl s

theorem testRoundEnd_keeps (m : Reading) (s : State) : Keeps c p 0 s (testRoundEnd m s) := by
  unfold testRoundEnd
  refine .ite (fun _ => ?_) fun _ => .refl s
  split
  · exact .ite (fun _ => orderUnload_keeps _ s) fun _ => .refl s
  · exact .refl s

theorem takeFresh_keeps (fresh : Option Reading) (s : State) : Keeps c p 0 s (takeFresh fresh s) := by
  unfold takeFresh
  split
  · exact ((testRoundEnd_keeps _ _).after (testPolarity_keeps _ _)).after (integrateSample_keeps _ s)
  · exact .refl s

theorem engineExpiry_keeps (was : EngineState) (hot stop new : Bool) (s : State) :
    Keeps c p 0 s (engineExpiry was hot stop new s) :=
  .ite (fun _ => ((((enterRun_keeps _).after (updateRuns_keeps _ _ _)).after (takeFresh_keeps _ _)).after
    (judge_keeps _ _)).after (engineTakesFilter_keeps _ _ s)) fun _ => .refl s

theorem evaluateAll_keeps (s : State) : Keeps c p 0 s (evaluateAll s) :=
  Keeps.after (.foldl (fun s n => noticeFlag_keeps n s) _ _) (.withBank s _)

theorem sampleExpiry_keeps (contacts : Contacts) (s : State) : Keeps c .act 0 s (sampleExpiry contacts s) := by
  have h1 : Keeps c .act 0 s ((onEngine Engine.tick s).withBank { takeSampleSet s.bank with contacts := contacts }) :=
    (Keeps.withBank _ _).after .ofCounts
  exact (((((engineExpiry_keeps _ _ _ _ _).after (atmosphereHandover_keeps _)).after (zoneHandover_keeps _)).after
    (evaluateAll_keeps _)).after (judgeSensors_keeps _)).after h1

/-! ## Everything due -/

theorem dueLoss_keeps (s : State) : Keeps c .due 0 s (dueLoss s) := takeMeasurementLoss_keeps s
theorem dueRamp_keeps (s : State) : Keeps c .due 0 s (dueRamp s) := (takeRampStep_keeps _).after (dueLoss_keeps s)
theorem dueUnload_keeps (s : State) : Keeps c .due 0 s (dueUnload s) := (takeUnloadComplete_keeps _).after (dueRamp_keeps s)
theorem dueRestCurrent_keeps (s : State) : Keeps c .due 0 s (dueRestCurrent s) :=
  (takeRestCurrentFault_keeps _).after (dueUnload_keeps s)
theorem dueLoadStuck_keeps (s : State) : Keeps c .due 0 s (dueLoadStuck s) :=
  (takeLoadStuck_keeps _).after (dueRestCurrent_keeps s)
theorem dueSettle_keeps (s : State) : Keeps c .due 0 s (dueSettle s) :=
  (takeSettleTimeout_keeps _).after (dueLoadStuck_keeps s)
theorem dueRest_keeps (s : State) : Keeps c .due 0 s (dueRest s) := (takeRestTimerExpiry_keeps _).after (dueSettle_keeps s)
theorem dueCheck_keeps (s : State) : Keeps c .due 0 s (dueCheck s) := (takeContactorCheck_keeps _).after (dueRest_keeps s)
theorem dueCountdown_keeps (s : State) : Keeps c .due 0 s (dueCountdown s) :=
  (takeCountdownEnd_keeps _).after (dueCheck_keeps s)
theorem dueRunning_keeps (s : State) : Keeps c .due 0 s (dueRunning s) :=
  (takeEnterRunning_keeps _).after (dueCountdown_keeps s)
theorem dueWindow_keeps (s : State) : Keeps c .due 0 s (dueWindow s) :=
  (takeStartWindowClose_keeps _).after (dueRunning_keeps s)
theorem takeDue_keeps (s : State) : Keeps c .due 0 s (takeDue s) :=
  Keeps.after (.foldl (fun s n => takeStreakQuiet_keeps n s) _ _) (dueWindow_keeps s)

end Sys2Proof.Machine
end

section
/-! PROOF. Every command but those of the start takes what is due, acts and answers, and keeps every safety property as it
does. -/

namespace Sys2Proof.Machine

open Sys2Proof

set_option Elab.async false

variable {c : Instr} {s u v t : State} {tag : Byte}

/-! ## The shape of a command -/

/-- A command goes to a state: what is due is taken, the command acts and it answers. -/
def Runs (c : Instr) (s : State) (a : Answer) : Prop :=
  ∃ u v t, a = .next t ∧ Keeps c .due 0 s u ∧ Keeps c .act 0 u v ∧ Keeps c .answer 0 v t

/-- An act ends in a reply under the request's tag, with a code that is not NONE. -/
def Replies (c : Instr) (tag : Byte) (u t : State) : Prop :=
  ∃ v r, Keeps c .act 0 u v ∧ t = formReply r v ∧ r.tag = tag ∧ r.code ≠ .none

/-- A request takes what is due, acts and replies. -/
def Requested (c : Instr) (tag : Byte) (s : State) (a : Answer) : Prop :=
  ∃ u t, a = .next t ∧ Keeps c .due 0 s u ∧ Replies c tag u t

theorem Requested.runs {a : Answer} (h : Requested c tag s a) : Runs c s a := by
  obtain ⟨u, t, ha, hu, v, r, hv, rfl, _⟩ := h
  exact ⟨u, v, _, ha, hu, hv, formReply_keeps r v⟩

theorem Runs.ofDue (h : Keeps c .due 0 s t) : Runs c s (.next t) := ⟨t, t, t, rfl, h, .refl t, .refl t⟩

theorem Runs.whenActive {act : State → State} (h : ∀ u, Keeps c .act 0 u (act u)) :
    Runs c s (.next (whenActive act s)) := by
  have hk := takeDue_keeps (c := c) s
  unfold Machine.whenActive
  generalize takeDue s = u at hk
  exact ⟨u, _, _, rfl, hk, .ite (fun _ => h u) fun _ => .refl u, .refl _⟩

theorem Replies.done (h : Keeps c .act 0 u v) (data : List Item) : Replies c tag u (replyDone tag data v) :=
  ⟨v, _, h, rfl, rfl, nofun⟩

theorem Replies.refused (h : Keeps c .act 0 u v) (r : Reason) : Replies c tag u (replyRefused tag r v) :=
  ⟨v, _, h, rfl, rfl, nofun⟩

theorem Replies.refuses (u : State) (r : Reason) : Replies c tag u (replyRefused tag r u) := .refused (.refl u) r

theorem Replies.busy (u : State) : Replies c tag u (replyBusy tag u) := ⟨u, _, .refl u, rfl, rfl, nofun⟩

theorem Replies.bad (u : State) (r : Reason) : Replies c tag u (replyBad tag r u) := ⟨u, _, .refl u, rfl, rfl, nofun⟩

theorem Replies.reads (u : State) (data : List Item) : Replies c tag u (replyDone tag data u) := .done (.refl u) data

theorem Replies.ite {q : Prop} [Decidable q] (h : q → Replies c tag u v) (h' : ¬q → Replies c tag u t) :
    Replies c tag u (if q then v else t) := by
  split
  · exact h ‹_›
  · exact h' ‹_›

theorem take_requested {body : State → State} (h : ∀ u, Replies c tag u (body u)) : Requested c tag s (take tag body s) := by
  have hk := takeDue_keeps (c := c) s
  unfold take
  generalize takeDue s = u at hk
  refine ⟨u, _, rfl, hk, ?_⟩
  unfold request
  split
  · exact .refuses _ _
  · exact .refuses _ _
  · exact h _
  · exact h _

/-! ## The line -/

theorem hearFrame_keeps {ok : Bool} {n : Nat} {d : Option Nat} {act : State → State} (h : ∀ s, Keeps c .act 0 s (act s))
    (s : State) : Keeps c .act 0 s (hearFrame ok n d act s) :=
  .ite (fun _ => .ite (fun _ => .ite (fun _ => enterClashed_keeps _ (by decide) s)
    fun _ => .ite (fun _ => h s) fun _ => .refl s) fun _ => countReceiveError_keeps s) fun _ => .refl s

theorem quietIntervalEnd_runs : Runs c s (execQuietIntervalEnd s) :=
  .whenActive fun u => .ite (fun h => by
    split
    · exact .ofActive h.1 rfl rfl (fun h => h.queue) (fun h => h.sequence) (fun h => h.ahead) fun h => h.aheadEmpty
    · exact .refl u) fun _ => .refl u

theorem contentionLost_runs (bit : Nat) : Runs c s (execContentionLost bit s) :=
  .whenActive fun u => by
    split
    · exact .ite (fun _ => endAttempt_keeps _ u) fun _ => .refl u
    · exact .refl u

theorem abortAttempt_keeps (a : Attempt) (s : State) : Keeps c .act 0 s (abortAttempt a s) := by
  have h : Keeps c .act 0 s ((endAttempt a s).withLink
      { (endAttempt a s).link with suspicion := (endAttempt a s).link.suspicion + 1 }) :=
    Keeps.after .ofLinkCounts (endAttempt_keeps a s)
  exact .ite (fun _ => (enterClashed_keeps _ (by decide) _).after h) fun _ => h

theorem frameAbort_runs (bit : Nat) : Runs c s (execFrameAbort bit s) :=
  .whenActive fun u => by
    split
    · split
      · exact .ite (fun _ => .refl u) fun _ => abortAttempt_keeps _ u
      · exact .refl u
    · exact .refl u

theorem frameComplete_runs : Runs c s (execFrameComplete s) :=
  .whenActive fun u => by
    split
    · next ha => exact completeAttempt_keeps ha
    · exact .refl u

theorem malformedLength_runs (n : Byte) : Runs c s (execMalformedLength n s) :=
  .whenActive fun u => .ite (fun _ => hearError_keeps u) fun _ => .refl u

theorem badFrame_runs (bs : List Byte) : Runs c s (execBadFrame bs s) :=
  .whenActive fun u => .ite (fun _ => hearError_keeps u) fun _ => .refl u

/-! ## The timers -/

theorem periodTimerExpiry_runs : Runs c s (execPeriodTimerExpiry s) :=
  .whenActive fun u => .ite (fun _ => .ite (fun _ => (runningPeriod_keeps _).after (advancePeriod_keeps u))
    fun _ => .ite (fun _ => (placeJoin_keeps _ _).after (advancePeriod_keeps u)) fun _ => advancePeriod_keeps u)
    fun _ => .refl u

theorem silenceTimerExpiry_runs (n : Nat) : Runs c s (execSilenceTimerExpiry n s) :=
  .whenActive fun u => .ite (fun _ => .ite (fun _ => (peerHandover_keeps _ _).after (setPeer_keeps _ _ _))
    fun _ => setPeer_keeps _ _ _) fun _ => .refl u

theorem offerExpiry_keeps {id : PackId} {r : PackRecord} (hr : findRecord id s = some r) (hs : r.state = .offered) :
    Keeps c .act 0 s (offerExpiry r s) := by
  obtain ⟨hm, _⟩ := findRecord_some hr
  have hu : ∀ f : PackRecord → PackRecord, (∀ x, x.id = r.id → (f x).id = r.id) →
      Keeps c .act 0 s (updateRecord r.id f s) := fun f hf => updateRecord_keeps_of_state hm rfl (by rw [hs]; decide) hf
  exact .ite (fun _ => (placeHandoff_keeps _ _).after (hu _ fun _ h => h)) fun _ =>
    (((raise_keeps _ _).after (handoffNote_keeps _ _ _ _)).after (raiseStreak_keeps _ _)).after (hu _ fun _ h => h)

theorem offerTimerExpiry_runs (id : PackId) : Runs c s (execOfferTimerExpiry id s) :=
  .whenActive fun u => by
    split
    · next hr => exact .ite (fun h => offerExpiry_keeps hr h.1) fun _ => .refl u
    · exact .refl u

theorem backOffExpiry_runs (id : PackId) : Runs c s (execBackOffExpiry id s) :=
  .whenActive fun u => by
    split
    · exact .ite (fun _ => updateRecord_keeps_of_same) fun _ => .refl u
    · exact .refl u

theorem transitTimerExpiry_runs (id : PackId) : Runs c s (execTransitTimerExpiry id s) :=
  .whenActive fun u => by
    split
    · next hr =>
      obtain ⟨hm, hid⟩ := findRecord_some hr
      exact .ite (fun h => ((handoffNote_keeps _ _ _ _).after (raise_keeps _ _)).after
        (updateRecord_keeps_of_state hm hid (by rw [h.1]; decide))) fun _ => .refl u
    · exact .refl u

theorem grantHoldExpiry_runs (id : PackId) : Runs c s (execGrantHoldExpiry id s) :=
  .whenActive fun u => by
    split
    · exact .ite (fun _ => ((handoffNote_keeps _ _ _ _).after (placeCancel_keeps _ _ _ _ _)).after
        (dropReservation_keeps _ u)) fun _ => .refl u
    · exact .refl u

theorem purgeTimerExpiry_runs : Runs c s (execPurgeTimerExpiry s) :=
  .whenActive fun u => .ite (fun _ => .ite (fun _ => (noteAtm_keeps _ _).after .ofAtmCounts)
    fun _ => enterTrip_keeps _ u) fun _ => .refl u

/-! ## Transfers -/

/-- An answer alone, after what is due. -/
theorem Runs.answers (hu : Keeps c .due 0 s u) (ht : Keeps c .answer 0 u t) : Runs c s (.next t) :=
  ⟨u, u, t, rfl, hu, .refl u, ht⟩

theorem badEnvelope_runs (bs : List Byte) : Runs c s (execBadEnvelope bs s) := by
  have hk := takeDue_keeps (c := c) s
  unfold execBadEnvelope
  generalize takeDue s = u at hk
  dsimp only
  split
  · exact .ofDue hk
  · exact .ofDue hk
  all_goals exact .answers hk (formReply_keeps _ u)

/-- The clearing of what READ EVENTS returned lowers counts alone, and forms the attention output afresh. -/
theorem clearReturned_keeps (x : EventsReturned) (s : State) : Keeps c .answer 0 s (clearReturned x s) := by
  refine Keeps.after (.withPort (fun h => absurd rfl h) fun h => ⟨rfl, fun n => ?_⟩) (.withBank s _)
  have hn := h.counts n
  simp only [formAttention, at1, State.withPort_port, State.withBank_port] at hn ⊢
  split
  · exact Nat.zero_le _
  · next hz =>
    rw [if_neg hz] at hn
    by_cases hk : n - 1 < 16
    · simp only [Vector.getElem?_eq_getElem hk, Vector.getElem_zipWith, Option.getD_some] at hn ⊢
      omega
    · simp [Vector.getElem?_eq_none (Nat.le_of_not_lt hk)]

theorem leaveReply_keeps (r : Reply) (s : State) : Keeps c .answer 0 s (leaveReply r s) := by
  have h : Keeps c .answer 0 s (s.withPort { s.port with pendingReply := none }) :=
    .withPort (fun h => absurd rfl h) fun h => ⟨h.attention, h.counts⟩
  unfold leaveReply
  dsimp only
  split
  · exact (clearReturned_keeps _ _).after h
  · exact h

theorem replyRead_runs (clocked : Nat) : Runs c s (execReplyRead clocked s) := by
  have hk := takeDue_keeps (c := c) s
  unfold execReplyRead
  generalize takeDue s = u at hk
  dsimp only
  have h : Keeps c .answer 0 u (u.withPort { u.port with clockedOut := clockOut clocked (replyCopy u.port) }) :=
    .withPort (fun h => absurd rfl h) fun h => ⟨h.attention, h.counts⟩
  split
  · exact .answers hk (.ite (fun _ => (leaveReply_keeps _ _).after h) fun _ => h)
  · exact .answers hk h

end Sys2Proof.Machine
end

section
/-! PROOF. What every request keeps, and with it every command but those of the start. -/

namespace Sys2Proof.Machine

open Sys2Proof

set_option Elab.async false

variable {c : Instr} {s u v t : State} {tag : Byte}

/-! ## Link Controller, Peer Table, Filter Bank -/

theorem testFrame_requested : Requested c tag s (execTestFrame tag s) :=
  take_requested fun u => .ite (fun _ => .refuses u _) fun _ => .done .ofLinkCounts _

theorem setAdmission_requested (mode : Byte) : Requested c tag s (execSetAdmission tag mode s) :=
  take_requested fun u => by
    split
    · exact .bad u _
    · next m _ =>
      have h : Keeps c .act 0 u (u.withPeers { u.peers with mode := m }) := .withPeers fun _ => rfl
      exact .ite (fun _ => .refuses u _) fun _ => .done (.ite (fun _ => h) fun _ => (examineAllListed_keeps _).after h) _

theorem testChannelOf_replies (n : Nat) (u : State) : Replies c tag u (testChannelOf tag n u) :=
  .ite (fun _ => .refuses u _) fun _ => .ite (fun _ => .refuses u _) fun _ => .ite (fun _ => .refuses u _) fun _ =>
    .ite (fun _ => .refuses u _) fun _ => .ite (fun _ => .reads u _) fun _ => .ite (fun _ => .refuses u _) fun _ =>
    .done (.withBank u _) _

theorem testChannel_requested (n : Byte) : Requested c tag s (execTestChannel tag n s) :=
  take_requested fun u => .ite (fun _ => .bad u _) fun _ => testChannelOf_replies _ u

theorem testDetector_requested (n : Byte) : Requested c tag s (execTestDetector tag n s) :=
  take_requested fun u => .ite (fun _ => .bad u _) fun _ => testChannelOf_replies _ u

/-! ## Pack Store -/

theorem findRecord_join {id : PackId} {r : PackRecord} (h : findRecord id s = none) (hid : r.id = id) :
    findRecord id (joinRecord r s) = some r := by
  simp only [findRecord, joinRecord, putRecords, refreshStore, State.withStore_store] at h ⊢
  rw [List.find?_append, h]
  simp [hid]

theorem admitPack_keeps {q : AdmitParams} (h1 : findRecord q.packId u = none) (h2 : findReservation q.packId u = none)
    (room : entriesHeld u < 8) : Keeps c .act 0 u (admitPack q u) := by
  have hj := (joinRecord_keeps (c := c) (p := .act) (s := u)
    (r := { id := q.packId, data := admitData q u, state := .held }) (by omega) (entriesHeld_fresh h1 h2)).trans
    (countAdmitted_keeps _)
  refine (zoneTakesStore_keeps _).after (Keeps.after (holdRecord_keeps (.inr (.inr ⟨_, findRecord_join h1 rfl, nofun⟩))) ?_)
  simpa using hj

theorem replies_data (h : Keeps c .act 0 u v) {r : Reply} (ht : r.tag = tag) (hc : r.code ≠ .none) :
    Replies c tag u (formReply r v) := ⟨v, r, h, rfl, ht, hc⟩

theorem admitPack_requested (q : AdmitParams) : Requested c tag s (execAdmitPack tag q s) :=
  take_requested fun u => .ite (fun _ => .refuses u _) fun _ => .ite (fun _ => .bad u _) fun _ =>
    .ite (fun _ => .refuses u _) fun h => .ite (fun _ => .refuses u _) fun hr => by
      simp only [not_or, Bool.not_eq_true, Option.isSome_eq_false_iff, Option.isNone_iff_eq_none] at h
      exact replies_data (admitPack_keeps h.1 h.2 (by omega)) rfl nofun

theorem makeReady_keeps {id : PackId} {r : PackRecord} (hr : findRecord id u = some r) (hs : r.state ≠ .feeding) :
    Keeps c .act 0 u (makeReady id u) := by
  obtain ⟨hm, hid⟩ := findRecord_some hr
  exact (raise_keeps _ _).after (updateRecord_keeps_of_state hm hid hs)

theorem forward_requested (id : PackId) : Requested c tag s (execForward tag id s) :=
  take_requested fun u => .ite (fun _ => .refuses u _) fun _ => by
    split
    · exact .refuses u _
    · next hr =>
      exact .ite (fun h => .done (makeReady_keeps hr (by rw [h]; decide)) _)
        fun _ => .ite (fun _ => .reads u _) fun _ => .busy u

theorem hold_requested (id : PackId) : Requested c tag s (execHold tag id s) :=
  take_requested fun u => .ite (fun _ => .refuses u _) fun _ => by
    split
    · exact .refuses u _
    · next hr =>
      obtain ⟨hm, hid⟩ := findRecord_some hr
      exact .ite (fun h => .done (updateRecord_keeps_of_state hm hid (by rw [h]; decide)) _)
        fun _ => .ite (fun _ => .reads u _) fun _ => .busy u

/-- An arrival under a reservation: the record takes the place of the reservation of its pack ID. -/
theorem arrive_keeps {v : Reservation} {r : PackRecord} (hv : v ∈ u.store.reservations) (hid : r.id = v.packId) :
    Keeps c .act (-1) u (joinRecord r (dropReservation v u)) := by
  obtain ⟨w, l1, l2, hw, hp, hl, he⟩ := List.exists_of_eraseP hv
    (p := fun r => decide (r.station = v.station ∧ r.packId = v.packId ∧ r.offerNumber = v.offerNumber)) (by simp)
  have hwid : w.packId = v.packId := by simp at hp; exact hp.2.1
  have hres : (joinRecord r (dropReservation v u)).store.reservations = l1 ++ l2 := he
  have hrec : (joinRecord r (dropReservation v u)).store.records = u.store.records ++ [r] := rfl
  refine .ofStore (fun b hb => by cases b <;> simp at hb <;> simp [sameBlock])
    (fun _ => (putRecords_is (u.store.records ++ [r]) (dropReservation v u)).formed) (fun hs => ?_) (by rw [hrec]; simp)
    (fun _ _ hf => hf.withRecords rfl rfl rfl rfl fun _ _ q hq h1 h2 => ⟨q, List.mem_append_left _ hq, h1, h2⟩)
    (fun h => h.congr rfl rfl rfl rfl rfl rfl)
  obtain ⟨h1, h2⟩ := hs
  refine ⟨?_, ?_⟩
  · simp only [entriesHeld, hres, hrec, hl, List.length_append, List.length_cons, List.length_nil] at h1 ⊢
    omega
  · simp only [packIds, hres, hrec, hl, List.map_append, List.map_cons, List.map_nil, hid, hwid] at h2 ⊢
    refine h2.perm ?_
    rw [List.append_assoc]
    exact List.Perm.append_left _ (by simp)

theorem readied_keeps {k : Int} {q : Prop} [Decidable q] (h : Keeps c .act k u v) :
    Keeps c .act k u (if q then v else raise .recordReady v) := .ite (fun _ => h) fun _ => (raise_keeps _ _).after h

theorem matchedArrival_keeps {id : PackId} {v : Reservation} (hv : findReservation id u = some v) :
    Keeps c .act 0 u (matchedArrival v u) := by
  have hm : v ∈ u.store.reservations := List.mem_of_find?_eq_some hv
  have h1 : Keeps c .act (-1) u (placeTaken v.station v.packId v.offerNumber false (createArrived v.packId
      (if newestPassed v.station v.pack then v.pack else addHistory v.station .passed v.pack) (dropReservation v u))) :=
    (placeHandoff_keeps _ _).after (readied_keeps (arrive_keeps hm rfl))
  exact (zoneTakesStore_keeps _).after (h1.trans (countReceived_keeps _))

theorem unexpectedArrival_keeps {id : PackId} (n : Nat) (h1 : findRecord id u = none) (h2 : findReservation id u = none)
    (room : entriesHeld u < 16) : Keeps c .act 0 u (unexpectedArrival id n u) := by
  have h3 := readied_keeps (q := u.cfg.role = .chamber) (joinRecord_keeps (c := c) (p := .act) (s := u)
    (r := { id := id, data := placeholderData u, state := if u.cfg.role = .chamber then .held else .ready }) room
    (entriesHeld_fresh h1 h2))
  have h4 : Keeps c .act (-1) u (if n = 0 then createArrived id (placeholderData u) u
      else placeTaken n id 0 true (createArrived id (placeholderData u) u)) :=
    .ite (fun _ => h3) fun _ => (placeHandoff_keeps _ _).after h3
  exact ((raise_keeps _ _).after (handoffNote_keeps _ _ _ _)).after
    ((zoneTakesStore_keeps _).after (h4.trans (countReceived_keeps _)))

theorem arrived_requested (id : PackId) (n : Byte) : Requested c tag s (execArrived tag id n s) :=
  take_requested fun u => .ite (fun _ => .bad u _) fun _ => .ite (fun _ => .refuses u _) fun _ =>
    .ite (fun _ => .refused (raise_keeps _ u) _) fun h => by
      split
      · next hv => exact .done (matchedArrival_keeps hv) _
      · next hn =>
        exact .ite (fun _ => .refused (raise_keeps _ u) _) fun hr =>
          .done (unexpectedArrival_keeps _ (by simpa using h) hn (by omega)) _

theorem recover_requested (id : PackId) : Requested c tag s (execRecover tag id s) :=
  take_requested fun u => by
    split
    · exact .refuses u _
    · next hr =>
      exact .ite (fun h => .done (makeReady_keeps hr (by rcases h with h | h <;> rw [h] <;> decide)) _)
        fun _ => .busy u

theorem remove_requested (id : PackId) : Requested c tag s (execRemove tag id s) :=
  take_requested fun u => by
    split
    · next r hr =>
      refine .ite (fun h => .done ?_ _) fun _ => .busy u
      have hn : r.state ≠ .feeding := fun hf => by rw [hf] at h; cases h
      have h2 := (zoneTakesStore_keeps _).after ((dropRecord_keeps (c := c) (p := .act) hr (.inr hn)).trans (countRemoved_keeps _))
      simpa using h2
    · exact .ite (fun _ => .busy u) fun _ => .refuses u _

/-! ## Discharge Engine -/

theorem bindRecord_keeps {tag' : Byte} (r : PackRecord) (hr : u.cfg.role = .bay) :
    Keeps (.start tag') .act 0 u (bindRecord r u) := by
  have h1 : Keeps (.start tag') .act 0 u (updateRecord r.id (fun x => x.into .discharging) u) :=
    updateRecord_keeps_of_role (by rw [hr]; decide)
  refine (recomputeTarget_keeps _).after (Keeps.after (.withEngine (fun hs => ?_) (fun h => absurd rfl (h tag')) ?_) h1)
  · exact engineSafe_with rfl rfl (fun _ => rfl) (Nat.zero_le _) hs.targetBound
  · exact .inr (.inr (.inr (by simpa using hr)))

theorem start_requested : Requested (.start tag) tag s (execStart tag s) :=
  take_requested fun u => .ite (fun _ => .refuses u _) fun hr => .ite (fun _ => .refuses u _) fun _ =>
    .ite (fun _ => .busy u) fun _ => .ite (fun _ => .refuses u _) fun _ => .ite (fun _ => .refuses u _) fun _ =>
    .ite (fun _ => .refuses u _) fun _ => .ite (fun _ => .refuses u _) fun _ => by
      have h1 : Keeps (.start tag) .act 0 u (if u.engine.state = .fault then handBack u else u) :=
        .ite (fun _ => handBack_keeps u) fun _ => .refl u
      have hb : (if u.engine.state = .fault then handBack u else u).cfg.role = .bay := by
        rw [h1.cfg]
        exact not_not.mp hr
      unfold startOldest
      generalize (if u.engine.state = .fault then handBack u else u) = v at h1 hb
      dsimp only
      split
      · exact .refused h1 _
      · exact .done ((bindRecord_keeps _ hb).after h1) _

theorem stopEngine_replies (u : State) : Replies c tag u (stopEngine tag u) := by
  unfold stopEngine
  split
  case h_6 => exact .done (handBack_keeps u) _
  case h_7 | h_8 | h_9 => exact .refuses u _
  all_goals exact .done (orderUnload_keeps _ u) _

theorem stop_requested : Requested c tag s (execStop tag s) :=
  take_requested fun u => .ite (fun _ => .refuses u _) fun _ => stopEngine_replies u

/-! ## Atmosphere Unit -/

theorem purge_requested : Requested c tag s (execPurge tag s) :=
  take_requested fun u => .ite (fun _ => .refuses u _) fun _ => .ite (fun _ => .busy u) fun _ =>
    .ite (fun _ => .refuses u _) fun _ => .ite (fun _ => .refuses u _) fun _ => .ite (fun _ => .refuses u _) fun _ =>
    .done (enterPurging_keeps u) _

/-- The feed permit is asserted under the feed conditions, for a FEEDING record without a mark. -/
theorem permitFeed_keeps {r : PackRecord} (role : u.cfg.role = .chamber) (link : u.link.state = .active)
    (conditions : feedConditions false u = true) (mem : r ∈ u.store.records) (feeding : r.state = .feeding)
    (marks : marksAny r.data.marks = false) : Keeps c .act 0 u (permitFeed u) := by
  simp only [feedConditions, Bool.and_eq_true, decide_eq_true_eq] at conditions
  exact .ofStore (fun b hb => by cases b <;> simp at hb <;> simp [sameBlock]) (fun h => h.congr rfl rfl rfl rfl rfl)
    (fun h => h.congr rfl rfl) (by simp [permitFeed])
    (fun _ _ _ _ => ⟨role, conditions.1.1, conditions.1.2, link, r, mem, feeding, marks⟩)
    (fun h => h.congr rfl rfl rfl rfl rfl rfl)

theorem beginFeed_keeps {r : PackRecord} (role : u.cfg.role = .chamber) (link : u.link.state = .active)
    (conditions : feedConditions false u = true) (mem : r ∈ u.store.records) (held : r.state = .held)
    (marks : marksAny r.data.marks = false) : Keeps c .act 0 u (beginFeed r u) := by
  have h1 : Keeps c .act 0 u (updateRecord r.id (fun x =>
      { x.into .feeding with data := addHistory u.cfg.station .fed x.data }) u) :=
    updateRecord_keeps_of_state mem rfl (by rw [held]; decide)
  refine (feedNote_keeps _ _ _).after (Keeps.after (permitFeed_keeps
    (r := { r.into .feeding with data := addHistory u.cfg.station .fed r.data }) ?_ ?_ ?_ ?_ rfl marks) h1)
  · simpa using role
  · simpa using link
  · exact conditions
  · exact List.mem_map.mpr ⟨r, mem, if_pos rfl⟩

theorem feedAgain_replies {r : PackRecord} (role : u.cfg.role = .chamber) (link : u.link.state = .active)
    (hr : feedingRecord u = some r) : Replies c tag u (feedAgain tag r u) := by
  refine .ite (fun _ => .busy u) fun _ => .ite (fun h => .done ?_ _) fun _ => replies_data (.refl u) rfl nofun
  have hm : marksAny r.data.marks = false := by
    simp only [feedConditions, Bool.and_eq_true, Bool.not_eq_true'] at h
    exact h.2
  rw [hm] at h
  exact permitFeed_keeps role link h (List.mem_of_find?_eq_some hr) (by simpa using List.find?_some hr) hm

theorem feedNext_replies (role : u.cfg.role = .chamber) (link : u.link.state = .active) :
    Replies c tag u (feedNext tag u) := by
  unfold feedNext
  split
  · exact .refuses u _
  · next hr =>
    refine .ite (fun _ => .refuses u _) fun hm => .ite (fun h => .done ?_ _) fun _ => replies_data (.refl u) rfl nofun
    exact beginFeed_keeps role link h (List.mem_of_find?_eq_some hr) (by simpa using List.find?_some hr) (by simpa using hm)

theorem feed_requested : Requested c tag s (execFeed tag s) :=
  take_requested fun u => .ite (fun _ => .refuses u _) fun hr => .ite (fun _ => .refuses u _) fun _ =>
    .ite (fun _ => .refuses u _) fun hl => by
      split
      · next h => exact feedAgain_replies (not_not.mp hr) (link_active hl) h
      · exact feedNext_replies (not_not.mp hr) (link_active hl)

theorem feedingOnly_replies {id : PackId} {done : PackRecord → State → State}
    (h : ∀ r, findRecord id u = some r → Keeps c .act 0 u (done r u)) : Replies c tag u (feedingOnly tag id done u) := by
  refine .ite (fun _ => .refuses u _) fun _ => ?_
  split
  · next r hr => exact .ite (fun _ => .done (h r hr) _) fun _ => .refuses u _
  · exact .ite (fun _ => .refuses u _) fun _ => .refuses u _

theorem consumeRecord_keeps {id : PackId} {r : PackRecord} (hr : findRecord id u = some r) :
    Keeps c .act 0 u (consumeRecord r u) := by
  have h1 : Keeps c .act 0 u (u.withAtm { u.atm with feedPermit := false }) := .ofAtmCounts (feedPermit := nofun)
  have hr' : findRecord r.id (u.withAtm { u.atm with feedPermit := false }) = some r := by
    rw [(findRecord_some hr).2]
    exact hr
  have h2 := (zoneTakesStore_keeps _).after (h1.trans (dropRecord_keeps hr' (.inl rfl)))
  exact (feedNote_keeps r.id .consumed _).after (h2.trans (tallyConsumed_keeps r.id (packEnergy r.data) _))

theorem withdrawRecord_keeps (r : PackRecord) (u : State) : Keeps c .act 0 u (withdrawRecord r u) :=
  (feedNote_keeps _ _ _).after (Keeps.after (updateRecord_keeps_of_dropped rfl) (.ofAtmCounts (feedPermit := nofun)))

theorem consumed_requested (id : PackId) : Requested c tag s (execConsumed tag id s) :=
  take_requested fun _ => feedingOnly_replies fun _ hr => consumeRecord_keeps hr

theorem withdrawFeed_requested (id : PackId) : Requested c tag s (execWithdrawFeed tag id s) :=
  take_requested fun u => feedingOnly_replies fun r _ => withdrawRecord_keeps r u

/-! ## Zone Unit, Tally Unit and Station Port -/

theorem strictCommand_keeps (on : Bool) (u : State) : Keeps c .act 0 u (strictCommand on u) :=
  (strictChanged_keeps _).after .withZone

theorem resetZone_requested : Requested c tag s (execResetZone tag s) :=
  take_requested fun u => .ite (fun _ => .refuses u _) fun _ => .ite (fun _ => .refuses u _) fun h =>
    .ite (fun _ => .refuses u _) fun _ => .ite (fun _ => .refuses u _) fun _ => .ite (fun _ => .refuses u _) fun _ =>
    .done (fallToNormal_keeps h) _

theorem restoreZone_requested : Requested c tag s (execRestoreZone tag s) :=
  take_requested fun u => .ite (fun _ => .refuses u _) fun _ => .ite (fun _ => .refuses u _) fun _ =>
    .ite (fun _ => .refuses u _) fun _ => .ite (fun _ => .refuses u _) fun _ => .done (restore_keeps u) _

theorem closeLot_requested : Requested c tag s (execCloseLot tag s) :=
  take_requested fun u => .ite (fun _ => .refuses u _) fun _ => by
    split
    · exact .refuses u _
    · exact .done (closeLot_keeps _ u) _

theorem setMask_requested (kinds channels : BitVec 16) : Requested c tag s (execSetMask tag kinds channels s) :=
  take_requested fun u => .done (formAttention_keeps u) _

/-! ## Reads -/

theorem readPeer_requested (n : Byte) : Requested c tag s (execReadPeer tag n s) :=
  take_requested fun u => .ite (fun _ => .bad u _) fun _ => .ite (fun _ => .refuses u _) fun _ => .reads u _

theorem readRecord_requested (id : PackId) : Requested c tag s (execReadRecord tag id s) :=
  take_requested fun u => by
    split
    · exact .reads u _
    · split
      · exact .reads u _
      · exact .refuses u _

theorem readAtmosphere_requested : Requested c tag s (execReadAtmosphere tag s) :=
  take_requested fun u => .done (.withDraws u _) _

theorem readLot_requested (n : BitVec 16) : Requested c tag s (execReadLot tag n s) :=
  take_requested fun u => .ite (fun _ => .refuses u _) fun _ => .ite
    (fun _ => by
      split
      · exact .reads u _
      · exact .refuses u _)
    fun _ => by
      split
      · exact .reads u _
      · exact .refuses u _

theorem readEvents_requested : Requested c tag s (execReadEvents tag s) :=
  ⟨_, _, rfl, takeDue_keeps s, replies_data (.refl _) rfl nofun⟩

theorem readConfigStatus_requested : Requested c tag s (execReadConfigStatus tag s) :=
  ⟨_, _, rfl, takeDue_keeps s, .reads _ _⟩

/-! ## Every command -/

/-- Every request takes what is due, acts and replies under its tag. -/
theorem exec_requested {code : Nat} {ps : List Byte} (h : requestParts c = some (code, tag, ps)) (s : State) :
    Requested c tag s (exec c s) := by
  have ht : (requestParts c).map (fun q => q.2.1) = some tag := by rw [h]; rfl
  clear h
  cases c
  case testFrame => cases ht; exact testFrame_requested
  case readLink => cases ht; exact take_requested fun u => .reads u _
  case setAdmission => cases ht; exact setAdmission_requested _
  case readPeer => cases ht; exact readPeer_requested _
  case readLineView => cases ht; exact take_requested fun u => .reads u _
  case testChannel => cases ht; exact testChannel_requested _
  case readFilters => cases ht; exact take_requested fun u => .reads u _
  case admitPack => cases ht; exact admitPack_requested _
  case forward => cases ht; exact forward_requested _
  case hold => cases ht; exact hold_requested _
  case arrived => cases ht; exact arrived_requested _ _
  case recover => cases ht; exact recover_requested _
  case remove => cases ht; exact remove_requested _
  case readRecord => cases ht; exact readRecord_requested _
  case readStore => cases ht; exact take_requested fun u => .reads u _
  case start => cases ht; exact start_requested
  case stop => cases ht; exact stop_requested
  case readEngine => cases ht; exact take_requested fun u => .reads u _
  case readResidual => cases ht; exact take_requested fun u => .reads u _
  case purge => cases ht; exact purge_requested
  case feed => cases ht; exact feed_requested
  case consumed => cases ht; exact consumed_requested _
  case withdrawFeed => cases ht; exact withdrawFeed_requested _
  case readAtmosphere => cases ht; exact readAtmosphere_requested
  case testDetector => cases ht; exact testDetector_requested _
  case strictOn => cases ht; exact take_requested fun u => .done (strictCommand_keeps true u) _
  case strictOff => cases ht; exact take_requested fun u => .done (strictCommand_keeps false u) _
  case resetZone => cases ht; exact resetZone_requested
  case restoreZone => cases ht; exact restoreZone_requested
  case readZone => cases ht; exact take_requested fun u => .reads u _
  case closeLot => cases ht; exact closeLot_requested
  case readTally => cases ht; exact take_requested fun u => .reads u _
  case readLot => cases ht; exact readLot_requested _
  case readEvents => cases ht; exact readEvents_requested
  case setMask => cases ht; exact setMask_requested _ _
  case readConfigStatus => cases ht; exact readConfigStatus_requested
  all_goals cases ht

/-- Every command but those of the start runs: it takes what is due, acts and answers. -/
theorem exec_runs (h1 : c ≠ .startReset) (h2 : ∀ a, c ≠ .configurationRead a) (h3 : ∀ a b d, c ≠ .epochWrite a b d)
    (s : State) : Runs c s (exec c s) := by
  cases hr : requestParts c with
  | some q => exact (exec_requested hr s).runs
  | none =>
    cases c
    case startReset => exact absurd rfl h1
    case configurationRead => exact absurd rfl (h2 _)
    case epochWrite => exact absurd rfl (h3 _ _ _)
    case enterRunning => exact .ofDue (dueRunning_keeps s)
    case quietIntervalEnd => exact quietIntervalEnd_runs
    case contentionLost => exact contentionLost_runs _
    case frameAbort => exact frameAbort_runs _
    case frameComplete => exact frameComplete_runs
    case framingError => exact .whenActive hearError_keeps
    case incompleteFrame => exact .whenActive hearError_keeps
    case malformedLength => exact malformedLength_runs _
    case badFrame => exact badFrame_runs _
    case stateReceived f => exact .whenActive (hearFrame_keeps (takeState_keeps f))
    case joinReceived f => exact .whenActive (hearFrame_keeps (takeJoin_keeps f))
    case alarmReceived f => exact .whenActive (hearFrame_keeps (fromAdmitted_keeps (judgeAlarm_keeps f)))
    case offerReceived f => exact .whenActive (hearFrame_keeps (takeOffer_keeps f))
    case grantReceived f => exact .whenActive (hearFrame_keeps (fromAdmitted_keeps (takeGrant_keeps f.head)))
    case refuseReceived f => exact .whenActive (hearFrame_keeps (fromAdmitted_keeps (takeRefuse_keeps f)))
    case takenReceived f => exact .whenActive (hearFrame_keeps (fromAdmitted_keeps (takeTaken_keeps f)))
    case cancelReceived f => exact .whenActive (hearFrame_keeps (fromAdmitted_keeps (takeCancel_keeps f)))
    case periodTimerExpiry => exact periodTimerExpiry_runs
    case startWindowClose => exact .ofDue (dueWindow_keeps s)
    case refusalStreakQuiet n => exact .ofDue ((takeStreakQuiet_keeps n _).after (dueWindow_keeps s))
    case silenceTimerExpiry => exact silenceTimerExpiry_runs _
    case sampleSetArrival =>
      exact .whenActive fun u => .ite (fun _ => .withBank u _) fun _ => .refl u
    case sampleTimerExpiry cs => exact .whenActive fun u => .ite (fun _ => sampleExpiry_keeps cs u) fun _ => .refl u
    case rampStep => exact .ofDue (dueRamp_keeps s)
    case settleTimeout => exact .ofDue (dueSettle_keeps s)
    case measurementLoss => exact .ofDue (dueLoss_keeps s)
    case unloadComplete => exact .ofDue (dueUnload_keeps s)
    case restCurrentFault => exact .ofDue (dueRestCurrent_keeps s)
    case loadStuck => exact .ofDue (dueLoadStuck_keeps s)
    case contactorCheckExpiry => exact .ofDue (dueCheck_keeps s)
    case restTimerExpiry => exact .ofDue (dueRest_keeps s)
    case offerTimerExpiry => exact offerTimerExpiry_runs _
    case backOffExpiry => exact backOffExpiry_runs _
    case transitTimerExpiry => exact transitTimerExpiry_runs _
    case grantHoldExpiry => exact grantHoldExpiry_runs _
    case purgeTimerExpiry => exact purgeTimerExpiry_runs
    case countdownEnd => exact .ofDue (dueCountdown_keeps s)
    case badEnvelope bs => exact badEnvelope_runs bs
    case replyRead n => exact replyRead_runs n
    all_goals cases hr

end Sys2Proof.Machine
end

section
/-! PROOF. Every command keeps `Safe`: the commands of the start, those that reach an inactive part, and all others. -/

namespace Sys2Proof.Machine

open Sys2Proof

set_option Elab.async false

variable {c : Instr} {s u v t : State} {tag : Byte}

/-! ## Nothing is done while the part is inactive -/

theorem Inactive.noneDue (h : Inactive s) (ha : active s = false) : noneDue s = true := by
  have hp : ¬s.start.phase = .listening := fun hp => by simp [active, hp] at ha
  have hpeer : ∀ n, (s.peer n).streak = 0 := fun n => by
    unfold State.peer at1
    rw [h.peers]
    split
    · rfl
    · by_cases hk : n - 1 < 31
      · simp [hk]
      · simp [Vector.getElem?_eq_none (Nat.le_of_not_lt hk)]
  have hperiod : s.peers.periodCount = 0 := by rw [h.peers]
  simp only [Machine.noneDue, Bool.and_eq_true, List.all_eq_true]
  refine ⟨⟨⟨⟨?_, ?_⟩, ?_⟩, ?_⟩, fun n _ => by simp [hpeer]⟩
  · rw [engineQuiet, h.engine]; rfl
  · rw [h.zone]; rfl
  · simp [hp]
  · simp [hperiod]

theorem whenActive_inactive (hn : noneDue s = true) (ha : active s = false) (act : State → State) :
    whenActive act s = s := by
  simp [whenActive, takeDue_of_noneDue hn, ha]

theorem take_loading (hn : noneDue s = true) (hp : s.start.phase = .loading) (body : State → State) :
    take tag body s = .next (replyRefused tag .starting s) := by
  simp only [take, request, takeDue_of_noneDue hn, hp]

theorem take_safeHalt (hn : noneDue s = true) (hp : s.start.phase = .safeHalt) (body : State → State) :
    take tag body s = .next (replyRefused tag .halted s) := by
  simp only [take, request, takeDue_of_noneDue hn, hp]

/-- Every request but READ EVENTS and READ CONFIG STATUS goes through the gate of R202. -/
theorem exec_take {code : Nat} {ps : List Byte} (h : requestParts c = some (code, tag, ps)) (h34 : code ≠ 34)
    (h36 : code ≠ 36) : ∃ body, ∀ s, exec c s = take tag body s := by
  have hc : (requestParts c).map (fun q => (q.1, q.2.1)) = some (code, tag) := by rw [h]; rfl
  clear h
  cases c
  case readEvents => cases hc; exact absurd rfl h34
  case readConfigStatus => cases hc; exact absurd rfl h36
  all_goals cases hc
  all_goals exact ⟨_, fun _ => rfl⟩

/-- A step due changes nothing where none is due. -/
theorem due_noneDue (hn : noneDue s = true) :
    dueLoss s = s ∧ dueRamp s = s ∧ dueUnload s = s ∧ dueRestCurrent s = s ∧ dueLoadStuck s = s ∧ dueSettle s = s
      ∧ dueRest s = s ∧ dueCheck s = s ∧ dueCountdown s = s ∧ dueRunning s = s ∧ dueWindow s = s := by
  have h11 := quietWindow_of_noneDue hn
  have h10 : quietRunning s = true := (Bool.and_eq_true _ _ ▸ h11).1
  have h9 : quietCountdown s = true := (Bool.and_eq_true _ _ ▸ h10).1
  have h8 : quietCheck s = true := (Bool.and_eq_true _ _ ▸ h9).1
  have h7 : quietRest s = true := (Bool.and_eq_true _ _ ▸ h8).1
  have h6 : quietSettle s = true := (Bool.and_eq_true _ _ ▸ h7).1
  have h5 : quietStuck s = true := (Bool.and_eq_true _ _ ▸ h6).1
  have h4 : quietRestCurrent s = true := (Bool.and_eq_true _ _ ▸ h5).1
  have h3 : quietUnload s = true := (Bool.and_eq_true _ _ ▸ h4).1
  have h2 : quietRamp s = true := (Bool.and_eq_true _ _ ▸ h3).1
  have h1 : quietLoss s = true := (Bool.and_eq_true _ _ ▸ h2).1
  exact ⟨dueLoss_quiet h1, dueRamp_quiet h2, dueUnload_quiet h3, dueRestCurrent_quiet h4, dueLoadStuck_quiet h5,
    dueSettle_quiet h6, dueRest_quiet h7, dueCheck_quiet h8, dueCountdown_quiet h9, dueRunning_quiet h10,
    dueWindow_quiet h11⟩

theorem takeStreakQuiet_noneDue (hn : noneDue s = true) (n : Nat) : takeStreakQuiet n s = s := by
  by_cases h : n ∈ stationNumbers
  · exact if_neg (streaks_of_noneDue hn n h)
  · have he : (s.peer n).streak = 0 := by
      simp only [stationNumbers, List.mem_map, List.mem_range, not_exists, not_and] at h
      unfold State.peer at1
      split
      · rfl
      · next hz =>
        have : ¬n - 1 < 31 := fun hlt => h (n - 1) hlt (by omega)
        simp [Vector.getElem?_eq_none (Nat.le_of_not_lt this)]
    exact if_neg (by simp [he])

theorem request_readEvents {ps : List Byte} (h : requestParts c = some (34, tag, ps)) : c = .readEvents tag := by
  cases c
  case readEvents => cases h; rfl
  all_goals simp [requestParts] at h

theorem request_readConfigStatus {ps : List Byte} (h : requestParts c = some (36, tag, ps)) :
    c = .readConfigStatus tag := by
  cases c
  case readConfigStatus => cases h; rfl
  all_goals simp [requestParts] at h

/-- What a command other than those of the start does to an inactive part: nothing, a reply, or the reading of one. -/
theorem exec_inactive (h1 : c ≠ .startReset) (h2 : ∀ a, c ≠ .configurationRead a) (h3 : ∀ a b d, c ≠ .epochWrite a b d)
    (hn : noneDue s = true) (ha : active s = false) :
    exec c s = .next s ∨ (∃ r, exec c s = .next (formReply r s)) ∨ ∃ n, c = .replyRead n := by
  have hw : ∀ act, (.next (whenActive act s) : Answer) = .next s := fun act => by rw [whenActive_inactive hn ha]
  obtain ⟨d1, d2, d3, d4, d5, d6, d7, d8, d9, d10, d11⟩ := due_noneDue hn
  have hd : takeDue s = s := takeDue_of_noneDue hn
  have hk : ∀ {x : State}, x = s → (.next x : Answer) = .next s := fun h => by rw [h]
  cases hr : requestParts c with
  | some q =>
    obtain ⟨code, tag, ps⟩ := q
    by_cases h34 : code = 34
    · subst h34
      obtain rfl := request_readEvents hr
      exact .inr (.inl ⟨_, congrArg (fun x : State => (.next (readEvents tag x) : Answer)) hd⟩)
    by_cases h36 : code = 36
    · subst h36
      obtain rfl := request_readConfigStatus hr
      exact .inr (.inl ⟨_, congrArg (fun x : State => (.next (replyDone tag (configStatusItems x) x) : Answer)) hd⟩)
    obtain ⟨body, hb⟩ := exec_take hr h34 h36
    rw [hb]
    cases hp : s.start.phase with
    | loading => exact .inr (.inl ⟨_, take_loading hn hp body⟩)
    | safeHalt => exact .inr (.inl ⟨_, take_safeHalt hn hp body⟩)
    | listening => simp [active, hp] at ha
    | running => simp [active, hp] at ha
  | none =>
    cases c
    case startReset => exact absurd rfl h1
    case configurationRead => exact absurd rfl (h2 _)
    case epochWrite => exact absurd rfl (h3 _ _ _)
    case replyRead n => exact .inr (.inr ⟨n, rfl⟩)
    case enterRunning => exact .inl (hk d10)
    case startWindowClose => exact .inl (hk d11)
    case rampStep => exact .inl (hk d2)
    case settleTimeout => exact .inl (hk d6)
    case measurementLoss => exact .inl (hk d1)
    case unloadComplete => exact .inl (hk d3)
    case restCurrentFault => exact .inl (hk d4)
    case loadStuck => exact .inl (hk d5)
    case contactorCheckExpiry => exact .inl (hk d8)
    case restTimerExpiry => exact .inl (hk d7)
    case countdownEnd => exact .inl (hk d9)
    case refusalStreakQuiet n => exact .inl (hk ((congrArg (takeStreakQuiet n) d11).trans (takeStreakQuiet_noneDue hn n)))
    case badEnvelope bs =>
      show execBadEnvelope bs s = _ ∨ (∃ r, execBadEnvelope bs s = _) ∨ _
      unfold execBadEnvelope
      rw [hd]
      dsimp only
      split
      · exact .inl rfl
      · exact .inl rfl
      all_goals exact .inr (.inl ⟨_, rfl⟩)
    all_goals first | cases hr; done | exact .inl (hw _)

/-! ## Inactive blocks -/

theorem Inactive.congr (h : Inactive s) (h1 : t.link = s.link) (h2 : t.peers = s.peers) (h3 : t.bank = s.bank)
    (h4 : t.store = s.store) (h5 : t.engine = s.engine) (h6 : t.residual = s.residual) (h7 : t.atm = s.atm)
    (h8 : t.zone = s.zone) (h9 : t.tally = s.tally) : Inactive t :=
  ⟨h1.trans h.link, by rw [h2]; exact h.peers, h3.trans h.bank, h4.trans h.store, h5.trans h.engine,
    h6.trans h.residual, h7.trans h.atm, h8.trans h.zone, h9.trans h.tally⟩

theorem formReply_inactive (r : Reply) (h : Inactive s) : Inactive (formReply r s) := by
  refine h.congr ?_ ?_ ?_ ?_ ?_ ?_ ?_ ?_ ?_ <;> simp

/-- No change flag is set at the start values, so the reading of READ EVENTS clears none. -/
theorem clearReturned_inactive (x : EventsReturned) (h : Inactive s) : Inactive (clearReturned x s) := by
  have hb : (clearReturned x s).bank = s.bank := by
    have hc : ∀ n, channelAt s n = {} := fun n => by
      unfold channelAt at1
      rw [h.bank]
      split
      · rfl
      · by_cases hk : n - 1 < 16
        · simp [hk]
        · simp [Vector.getElem?_eq_none (Nat.le_of_not_lt hk)]
    have hv : (clearReturned x s).bank.channels = s.bank.channels := by
      rw [h.bank]
      simp only [clearReturned, hc, State.withPort_bank, State.withBank_bank, Bool.false_and]
      exact Vector.ext fun i hi => by simp
    have hs : (clearReturned x s).bank = { s.bank with channels := (clearReturned x s).bank.channels } := rfl
    rw [hs, hv]
  refine h.congr ?_ ?_ hb ?_ ?_ ?_ ?_ ?_ ?_ <;> simp

theorem leaveReply_inactive (r : Reply) (h : Inactive s) : Inactive (leaveReply r s) := by
  unfold leaveReply
  dsimp only
  split
  · exact clearReturned_inactive _ (h.congr rfl rfl rfl rfl rfl rfl rfl rfl rfl)
  · exact h.congr rfl rfl rfl rfl rfl rfl rfl rfl rfl

theorem replyRead_inactive (n : Nat) (h : Inactive s) (hn : noneDue s = true) (ht : execReplyRead n s = .next t) :
    Inactive t := by
  unfold execReplyRead at ht
  rw [takeDue_of_noneDue hn] at ht
  dsimp only at ht
  have hc : Inactive (s.withPort { s.port with clockedOut := clockOut n (replyCopy s.port) }) :=
    h.congr rfl rfl rfl rfl rfl rfl rfl rfl rfl
  split at ht
  · cases ht
    split
    · exact leaveReply_inactive _ hc
    · exact hc
  · cases ht
    exact hc

/-- An inactive part stays at its start values under every command but those of the start. -/
theorem exec_keeps_inactive (h1 : c ≠ .startReset) (h2 : ∀ a, c ≠ .configurationRead a)
    (h3 : ∀ a b d, c ≠ .epochWrite a b d) (h : Inactive s) (ha : active s = false) (ht : exec c s = .next t) :
    Inactive t := by
  have hn := h.noneDue ha
  rcases exec_inactive h1 h2 h3 hn ha with he | ⟨r, he⟩ | ⟨n, rfl⟩
  · cases he.symm.trans ht
    exact h
  · cases he.symm.trans ht
    exact formReply_inactive r h
  · exact replyRead_inactive n h hn ht

/-! ## Safe states -/

/-- The Start Unit stands, but for an entry into RUNNING from LISTENING. -/
theorem Keeps.active {p : Part} {k : Int} (h : Keeps c p k s t) : Machine.active t = Machine.active s := by
  rcases h.start with he | ⟨_, hp, _, he⟩
  · rw [Machine.active, he, Machine.active]
  · simp [Machine.active, he, hp]

theorem Safe.keeps {p : Part} (h : Safe s) (hk : Keeps c p 0 s t) (hi : InactiveAtStart t) : Safe t where
  engine := hk.engine h.engine
  bay := hk.bay h.bay
  formed := hk.formed h.formed
  link := hk.link h.link
  bounded := hk.bounded h.bounded
  balanced := (tallyBalanced_iff t).mpr (by simpa using hk.balanced 0 ((tallyBalanced_iff s).mp h.balanced))
  journal := hk.journal h.journal
  inactive := hi
  feed := hk.feed h.bounded h.bay h.feed
  suppression := hk.suppression h.suppression
  valves := hk.valves h.valves
  attention := hk.attention h.attention

/-- `Safe` sees the Start Unit, the Peer Table and the Filter Bank in `InactiveAtStart` alone. -/
theorem Safe.congr (h : Safe s) (hl : t.link = s.link) (hs : t.store = s.store) (he : t.engine = s.engine)
    (ha : t.atm = s.atm) (hz : t.zone = s.zone) (ht : t.tally = s.tally) (hp : t.port = s.port) (hc : t.cfg = s.cfg)
    (hi : InactiveAtStart t) : Safe t where
  engine := h.engine.congr he
  bay := h.bay.congr hc he
  formed := h.formed.congr hc hs (by rw [hz]) (by rw [hl]) (by rw [ha])
  link := h.link.congr hl
  bounded := h.bounded.congr (by rw [hs]) (by rw [hs])
  balanced := (tallyBalanced_iff t).mpr
    (((tallyBalanced_iff s).mp h.balanced).congr (by rw [ht]) (by rw [ht]) (by rw [hs]))
  journal := h.journal.congr (by rw [ht]) (by rw [ht])
  inactive := hi
  feed := h.feed.congr hc (by rw [ha]; exact id) (by rw [ha]) (by rw [hz]) (by rw [hl]) (by rw [hs])
  suppression := h.suppression.congr hc (by rw [hz]) (by rw [hz]) (by rw [hz])
  valves := h.valves.congr (by rw [ha]) (by rw [ha]) (by rw [ha]) (by rw [ha]) (by rw [ha]) (by rw [ha])
  attention := h.attention.congr (by rw [hp]) (by rw [hp]) (by rw [hp])

/-- A part at its start values, with an attention output that its port gives, is safe. -/
theorem Inactive.safe (h : Inactive s) (ha : AttentionFollows s) : Safe s where
  engine := by constructor <;> simp [h.engine, contactorClosed]
  bay := fun _ => by simp [h.engine]
  formed := by
    constructor <;> simp [h.store, permitHolds, heldSum, reservedSum, effectiveLimit, h.atm, atChamber]
    all_goals cases s.cfg.role <;> rfl
  link := by constructor <;> simp [h.link]
  bounded := ⟨by simp [entriesHeld, h.store], by simp [packIds, h.store]⟩
  balanced := ⟨fun _ => by simp [h.tally, h.store, Tally.balance]⟩
  journal := by constructor <;> simp [h.tally]
  inactive := fun _ => h
  feed := .of_dropped (by rw [h.atm])
  suppression := by constructor <;> simp [h.zone]
  valves := by constructor <;> simp [h.atm]
  attention := ha

end Sys2Proof.Machine
end

section
/-! PROOF. The commands of the start keep `Safe`, and with them every step does; the statements about every step. -/

namespace Sys2Proof.Machine

open Sys2Proof

set_option Elab.async false

variable {c : Instr} {s u v t : State} {tag : Byte}

/-! ## The commands of the start -/

theorem reset_inactive : Inactive State.reset := ⟨rfl, rfl, rfl, rfl, rfl, rfl, rfl, rfl, rfl⟩

theorem attention_empty (h : s.port = {}) : AttentionFollows s := by
  constructor
  · rw [h]; decide
  · intro n
    rw [h]
    unfold at1
    split
    · exact Nat.zero_le _
    · by_cases hk : n - 1 < 16
      · simp [hk]
      · simp [Vector.getElem?_eq_none (Nat.le_of_not_lt hk)]

theorem startReset_safe (s : State) :
    Safe { State.reset with uniqueId := s.uniqueId, pending := s.pending, draws := s.draws } :=
  Inactive.safe ⟨rfl, rfl, rfl, rfl, rfl, rfl, rfl, rfl, rfl⟩ (attention_empty rfl)

/-- Every block stands, the port raises what it raises: an inactive part with its attention output formed. -/
theorem safeHalt_safe (f : Failing) (h : Inactive s) (ha : AttentionFollows s) : Safe (safeHalt f s) := by
  refine Inactive.safe (h.congr rfl rfl rfl rfl rfl rfl rfl rfl rfl) ?_
  exact (raise_keeps (c := .startReset) (p := .act) .peerChange _).attention (ha.congr rfl rfl rfl)

/-- The sums and the permit of an empty store at an OPEN atmosphere are those of the start values. -/
theorem refreshStore_empty (hs : s.store = {}) (ha : s.atm = {}) : (refreshStore s).store = {} := by
  have hp : permitHolds s = false := by rw [permitHolds, hs]; rfl
  have hl : effectiveLimit s = 0 := by rw [effectiveLimit, ha]
  simp only [refreshStore, State.withStore_store, hp, hl, hs]
  cases s.cfg.role <;> rfl

theorem takeConfiguration_safe (x : Settings) (h : Inactive s) (ha : AttentionFollows s) :
    Safe (takeConfiguration x s) := by
  have hs : (takeConfiguration x s).store = {} :=
    refreshStore_empty (s := ((s.withCfg x).withStart { s.start with configTaken := true }).withPeers
      { s.peers with mode := x.admissionMode }) h.store h.atm
  have hp : (takeConfiguration x s).peers = { mode := x.admissionMode } := by
    show { s.peers with mode := x.admissionMode } = _
    rw [h.peers]
  refine Inactive.safe ⟨h.link, by rw [hp], h.bank, hs, h.engine, h.residual, h.atm, h.zone, h.tally⟩ ?_
  exact (formAttention_keeps (c := .startReset) (p := .act) _).attention (ha.congr rfl rfl rfl)

theorem configurationRead_safe (tries : List (Option (List Byte))) (h : Inactive s) (ha : AttentionFollows s) :
    Safe (configurationRead tries s) := by
  unfold configurationRead
  dsimp only
  split
  · exact safeHalt_safe _ (h.congr rfl rfl rfl rfl rfl rfl rfl rfl rfl) (ha.congr rfl rfl rfl)
  · split
    · exact safeHalt_safe _ (h.congr rfl rfl rfl rfl rfl rfl rfl rfl rfl) (ha.congr rfl rfl rfl)
    · exact takeConfiguration_safe _ (h.congr rfl rfl rfl rfl rfl rfl rfl rfl rfl) (ha.congr rfl rfl rfl)

/-- The part as LISTENING begins, up to the JOIN (R200). -/
def timersStarted (s : State) : State :=
  ((s.withStart { s.start with phase := .listening }).withPeers { s.peers with periodTimer := true }).withBank
    { s.bank with sampleTimer := true }

theorem enterListening_is (s : State) :
    enterListening s = placeJoin (ownJoin (timersStarted s)) (timersStarted s) := rfl

theorem enterListening_active (s : State) : active (enterListening s) = true := by
  rw [enterListening_is, (placeJoin_keeps (c := .startReset) (p := .act) _ _).active]
  rfl

/-- LISTENING begins with every block but the Start Unit, the Peer Table and the Filter Bank as it was. -/
theorem enterListening_safe (h : Safe s) (y : Start) : Safe (enterListening (s.withStart y)) := by
  have h1 : Safe (timersStarted (s.withStart y)) := h.congr rfl rfl rfl rfl rfl rfl rfl rfl fun hi => by cases hi
  exact h1.keeps (placeJoin_keeps (c := .startReset) (p := .act) _ _) fun hi =>
    absurd hi (Bool.not_eq_false _ ▸ enterListening_active (s.withStart y))

theorem epochStep_safe (reads : List (Option Byte)) (acks : List Bool) (backs : List (Option Byte)) (h : Safe s) :
    Safe (epochStep reads acks backs s) ∧ active (epochStep reads acks backs s) = true := by
  unfold epochStep
  dsimp only
  split
  · exact ⟨enterListening_safe h _, enterListening_active _⟩
  · have hk := fun x => peerChange_keeps (c := .startReset) (p := .act) .epochWrite s.cfg.station x
    have ha : ∀ x, active (peerChange .epochWrite s.cfg.station (enterListening x)) = true := fun x =>
      (hk _).active.trans (enterListening_active x)
    exact ⟨(enterListening_safe h _).keeps (hk _) fun hi => absurd hi (by simpa using ha _), ha _⟩

/-- CONFIGURATION READ acts in LOADING alone. -/
theorem configurationRead_cases {a : List (Option (List Byte))} (ht : exec (.configurationRead a) s = .next t) :
    t = s ∨ s.start.phase = .loading ∧ t = configurationRead a s := by
  replace ht : execConfigurationRead a s = .next t := ht
  unfold execConfigurationRead at ht
  split at ht
  · next hp => cases ht; exact .inr ⟨hp.1, rfl⟩
  · cases ht; exact .inl rfl

/-- EPOCH WRITE acts in LOADING alone. -/
theorem epochWrite_cases {a d : List (Option Byte)} {b : List Bool} (ht : exec (.epochWrite a b d) s = .next t) :
    t = s ∨ s.start.phase = .loading ∧ t = epochStep a b d s := by
  replace ht : execEpochWrite a b d s = .next t := ht
  unfold execEpochWrite at ht
  split at ht
  · next hp => cases ht; exact .inr ⟨hp.1, rfl⟩
  · cases ht; exact .inl rfl

/-! ## Every step -/

/-- What is due, the act and the answer together keep every property of a safe part. -/
theorem Safe.runs {u v : State} (h : Safe s) (hu : Keeps c .due 0 s u) (hv : Keeps c .act 0 u v)
    (ha : Keeps c .answer 0 v t) (hi : InactiveAtStart t) : Safe t where
  engine := ha.engine (hv.engine (hu.engine h.engine))
  bay := ha.bay (hv.bay (hu.bay h.bay))
  formed := ha.formed (hv.formed (hu.formed h.formed))
  link := ha.link (hv.link (hu.link h.link))
  bounded := ha.bounded (hv.bounded (hu.bounded h.bounded))
  balanced := (tallyBalanced_iff t).mpr
    (by simpa using ha.balanced _ (hv.balanced _ (hu.balanced _ ((tallyBalanced_iff s).mp h.balanced))))
  journal := ha.journal (hv.journal (hu.journal h.journal))
  inactive := hi
  feed :=
    have hb := hu.bounded h.bounded
    have he := hu.bay h.bay
    ha.feed (hv.bounded hb) (hv.bay he) (hv.feed hb he (hu.feed h.bounded h.bay h.feed))
  suppression := ha.suppression (hv.suppression (hu.suppression h.suppression))
  valves := ha.valves (hv.valves (hu.valves h.valves))
  attention := ha.attention (hv.attention (hu.attention h.attention))

/-- Every command leads a safe part to a safe one. -/
theorem exec_safe (h : Safe s) (ht : exec c s = .next t) : Safe t := by
  by_cases h1 : c = .startReset
  · subst h1
    cases ht
    exact startReset_safe s
  by_cases h2 : ∃ a, c = .configurationRead a
  · obtain ⟨a, rfl⟩ := h2
    rcases configurationRead_cases ht with rfl | ⟨hp, rfl⟩
    · exact h
    · exact configurationRead_safe a (h.inactive (by simp [active, hp])) h.attention
  by_cases h3 : ∃ a b d, c = .epochWrite a b d
  · obtain ⟨a, b, d, rfl⟩ := h3
    rcases epochWrite_cases ht with rfl | ⟨_, rfl⟩
    · exact h
    · exact (epochStep_safe a b d h).1
  have h2' : ∀ a, c ≠ .configurationRead a := fun a ha => h2 ⟨a, ha⟩
  have h3' : ∀ a b d, c ≠ .epochWrite a b d := fun a b d ha => h3 ⟨a, b, d, ha⟩
  obtain ⟨u, v, w, hw, hu, hv, ha⟩ := exec_runs h1 h2' h3' s
  obtain rfl : w = t := by cases hw.symm.trans ht; rfl
  have hk : active w = active s := ha.active.trans (hv.active.trans hu.active)
  have hi : InactiveAtStart w := fun hn => by
    rw [hk] at hn
    exact exec_keeps_inactive h1 h2' h3' (h.inactive hn) hn ht
  exact h.runs hu hv ha hi

/-- Every step leads a safe part to a safe one. -/
theorem step_safe (h : Safe s) (ht : step s = .next t) : Safe t := by
  unfold step at ht
  split at ht
  · cases ht
    exact h
  · next c rest _ =>
    have hr : Safe { s with pending := rest } :=
      h.congr rfl rfl rfl rfl rfl rfl rfl rfl fun ha => (h.inactive ha).congr rfl rfl rfl rfl rfl rfl rfl rfl rfl
    exact exec_safe hr ht

/-- Settles O8: the contactor, the load step and the step bounds are among what every step keeps. -/
theorem stepKeepsEngineSafe : Obligations.StepKeepsEngineSafe := fun _ _ h ht => (step_safe h ht).engine

/-- Settles O9: so are the bounds of the transmit state. -/
theorem stepKeepsLinkSafe : Obligations.StepKeepsLinkSafe := fun _ _ h ht => (step_safe h ht).link

/-- Settles O10: so are the permit, the sums, the allowance and the entries of the store. -/
theorem stepKeepsStoreFormed : Obligations.StepKeepsStoreFormed := fun _ _ h ht =>
  ⟨(step_safe h ht).formed, (step_safe h ht).bounded⟩

/-- Settles O11: so are the balance and the bounds of the journal. -/
theorem stepKeepsTally : Obligations.StepKeepsTally := fun _ _ h ht => ⟨(step_safe h ht).balanced, (step_safe h ht).journal⟩

/-- Settles O12: so are the start values of an inactive part, and an idle engine off a BAY. -/
theorem stepKeepsInactive : Obligations.StepKeepsInactive := fun _ _ h ht =>
  ⟨(step_safe h ht).inactive, (step_safe h ht).bay⟩

/-- Settles O13: so are the conditions of an asserted feed permit. -/
theorem stepKeepsFeedSafe : Obligations.StepKeepsFeedSafe := fun _ _ h ht => (step_safe h ht).feed

/-- Settles O14: so are suppression and the countdown with the level. -/
theorem stepKeepsSuppressionSafe : Obligations.StepKeepsSuppressionSafe := fun _ _ h ht => (step_safe h ht).suppression

/-- Settles O15: so are the valve, supply and attention outputs. -/
theorem stepKeepsOutputs : Obligations.StepKeepsOutputs := fun _ _ h ht =>
  ⟨(step_safe h ht).valves, (step_safe h ht).attention⟩

/-! ## The start commands apart -/

/-- A command is one of the three of the start, or it runs. -/
theorem exec_start_or_runs (c : Instr) (s : State) :
    c = .startReset ∨ (∃ a, c = .configurationRead a) ∨ (∃ a b d, c = .epochWrite a b d) ∨ Runs c s (exec c s) := by
  by_cases h1 : c = .startReset
  · exact .inl h1
  by_cases h2 : ∃ a, c = .configurationRead a
  · exact .inr (.inl h2)
  by_cases h3 : ∃ a b d, c = .epochWrite a b d
  · exact .inr (.inr (.inl h3))
  · exact .inr (.inr (.inr (exec_runs h1 (fun a ha => h2 ⟨a, ha⟩) (fun a b d ha => h3 ⟨a, b, d, ha⟩) s)))

/-- What CONFIGURATION READ leaves: the phase LOADING stands, or SAFE HALT is entered. -/
theorem configurationRead_keeps (tries : List (Option (List Byte))) (s : State) :
    (configurationRead tries s).engine = s.engine ∧ (configurationRead tries s).zone = s.zone
      ∧ (configurationRead tries s).uniqueId = s.uniqueId ∧ (configurationRead tries s).pending = s.pending
      ∧ (configurationRead tries s).start.epoch = s.start.epoch
      ∧ ((configurationRead tries s).start.phase = s.start.phase
        ∨ (configurationRead tries s).start.phase = .safeHalt) := by
  unfold configurationRead
  dsimp only
  split
  · simp [safeHalt, makeTransactions]
  · split
    · simp [safeHalt, makeTransactions]
    · simp [takeConfiguration, makeTransactions]

theorem epochStep_phase (reads : List (Option Byte)) (acks : List Bool) (backs : List (Option Byte)) (s : State) :
    (epochStep reads acks backs s).start.phase = .listening := by
  have hl : ∀ x, (enterListening x).start.phase = .listening := fun x => by simp [enterListening_is, timersStarted]
  unfold epochStep
  dsimp only
  split
  · exact hl _
  · rw [(peerChange_keeps (c := .startReset) (p := .answer) _ _ _).start.resolve_right (by simp)]
    exact hl _

/-- Settles O16: START RESET opens the contactor, the other commands of the start leave the engine, and every other command
keeps an open contactor but START. -/
theorem contactorClosesByStart : Obligations.ContactorClosesByStart := by
  intro c s t hs ht ho hc
  by_contra hn
  have stands : t.engine ≠ s.engine := fun he => by rw [he, ho] at hc; cases hc
  rcases exec_start_or_runs c s with rfl | ⟨a, rfl⟩ | ⟨a, b, d, rfl⟩ | ⟨u, v, w, hw, hu, hv, ha⟩
  · cases ht
    cases hc
  · rcases configurationRead_cases ht with rfl | ⟨_, rfl⟩
    · exact stands rfl
    · exact stands (configurationRead_keeps a s).1
  · rcases epochWrite_cases ht with rfl | ⟨_, rfl⟩
    · exact stands rfl
    · exact stands (by simp)
  · obtain rfl : w = t := by cases hw.symm.trans ht; rfl
    have hne : ∀ tag, c ≠ .start tag := fun tag h => hn ⟨tag, h⟩
    have := ha.opened hne (hv.engine (hu.engine hs)) (hv.opened hne (hu.engine hs) (hu.opened hne hs ho))
    rw [hc] at this
    cases this

/-- Settles O17: suppression is asserted among the steps due alone, at the end of a countdown. -/
theorem suppressionByCountdown : Obligations.SuppressionByCountdown := by
  intro c s t ht ho hc
  have stands : t.zone ≠ s.zone := fun he => by rw [he, ho] at hc; cases hc
  rcases exec_start_or_runs c s with rfl | ⟨a, rfl⟩ | ⟨a, b, d, rfl⟩ | ⟨u, v, w, hw, hu, hv, ha⟩
  · cases ht
    cases hc
  · rcases configurationRead_cases ht with rfl | ⟨_, rfl⟩
    · exact absurd rfl stands
    · exact absurd (configurationRead_keeps a s).2.1 stands
  · rcases epochWrite_cases ht with rfl | ⟨_, rfl⟩
    · exact absurd rfl stands
    · exact absurd (by simp) stands
  · obtain rfl : w = t := by cases hw.symm.trans ht; rfl
    have hv1 := (ha.released hc).resolve_right (by simp)
    have hu1 := (hv.released hv1).resolve_right (by simp)
    rcases hu.released hu1 with hs | ⟨_, hs⟩
    · rw [ho] at hs
      cases hs
    · exact hs

/-! ## The order of the start, and requests -/

/-- Settles O3: each command of the start does what its rule says, and every other one leaves the Start Unit but for the
entry into RUNNING. -/
theorem startIsOrdered : Obligations.StartIsOrdered := by
  intro c s t ht
  rcases exec_start_or_runs c s with rfl | ⟨a, rfl⟩ | ⟨a, b, d, rfl⟩ | ⟨u, v, w, hw, hu, hv, ha⟩
  · cases ht
    exact ⟨rfl, rfl, .inr (.inl rfl), .inr (.inl rfl), fun _ => .inr rfl, fun _ => .inr rfl, nofun, nofun, nofun,
      fun _ => .inr rfl⟩
  · rcases configurationRead_cases ht with rfl | ⟨hp, rfl⟩
    · simp +contextual
    · obtain ⟨_, _, hid, hpend, hepoch, hphase⟩ := configurationRead_keeps a s
      refine ⟨hid, hpend, .inr (.inr ⟨a, rfl⟩), .inl hepoch, ?_, ?_, ?_, ?_, ?_, ?_⟩ <;>
        rcases hphase with h | h <;> simp [h, hp]
  · rcases epochWrite_cases ht with rfl | ⟨hp, rfl⟩
    · simp +contextual
    · have hphase := epochStep_phase a b d s
      refine ⟨by simp, by simp, .inl (by simp), .inr (.inr ⟨a, b, d, rfl⟩), ?_, ?_, ?_, ?_, ?_, ?_⟩ <;> simp [hphase, hp]
  · obtain rfl : w = t := by cases hw.symm.trans ht; rfl
    have hstart : w.start = u.start :=
      (ha.start.resolve_right (by simp)).trans (hv.start.resolve_right (by simp))
    refine ⟨ha.uniqueId.trans (hv.uniqueId.trans hu.uniqueId), ha.pending.trans (hv.pending.trans hu.pending),
      .inl (ha.cfg.trans (hv.cfg.trans hu.cfg)), ?_⟩
    rw [hstart]
    rcases hu.start with he | ⟨_, hp, hk, he⟩
    · rw [he]
      simp +contextual
    · rw [he]
      simp [hp, hk]

/-- Settles O4: what is due and the act leave the reply that waits, and the reply formed carries the tag. -/
theorem requestTagReturned : Obligations.RequestTagReturned := by
  intro c s t code tag ps h ht
  obtain ⟨u, w, hw, hu, v, r, hv, rfl, htag, hcode⟩ := exec_requested h s
  obtain rfl : formReply r v = t := by cases hw.symm.trans ht; rfl
  have hp : v.port.pendingReply = s.port.pendingReply := (hv.reply (by decide)).trans (hu.reply (by decide))
  refine ⟨{ r with overrun := v.port.pendingReply.isSome }, formReply_pending r v, htag, hcode, ?_⟩
  rw [hp]
  exact Option.isSome_iff_exists

/-- Settles O5: every such request goes through the gate of R202. -/
theorem requestsBeforeListening : Obligations.RequestsBeforeListening := by
  intro c s code tag ps h h34 h36 hn
  obtain ⟨body, hb⟩ := exec_take h h34 h36
  rw [hb]
  exact ⟨fun hp => take_loading hn hp body, fun hp => take_safeHalt hn hp body⟩

/-- No command faults or is refused. -/
theorem exec_next (c : Instr) (s : State) : ∃ t, exec c s = .next t := by
  rcases exec_start_or_runs c s with rfl | ⟨a, rfl⟩ | ⟨a, b, d, rfl⟩ | ⟨u, v, w, hw, hu, hv, ha⟩
  · exact ⟨_, rfl⟩
  · show ∃ t, execConfigurationRead a s = .next t
    unfold execConfigurationRead
    split <;> exact ⟨_, rfl⟩
  · show ∃ t, execEpochWrite a b d s = .next t
    unfold execEpochWrite
    split <;> exact ⟨_, rfl⟩
  · exact ⟨w, hw⟩

/-- Settles O1: a step takes the front command, and every command ends in a state. -/
theorem stepTakesFront : Obligations.StepTakesFront := by
  intro s
  refine ⟨fun c rest h => by simp [step, h], fun h => by simp [step, h], ?_⟩
  unfold step
  split
  · exact ⟨s, rfl⟩
  · exact exec_next _ _

/-- Settles O2: the state after start reset is inactive and so safe; the values are the defaults of the blocks. -/
theorem resetIsSafe : Obligations.ResetIsSafe := by
  have hpeer : ∀ n, State.reset.peer n = {} := fun n => by
    unfold State.peer at1
    split
    · rfl
    · by_cases hk : n - 1 < 31
      · simp [State.reset, hk]
      · simp [Vector.getElem?_eq_none (Nat.le_of_not_lt hk)]
  exact ⟨reset_inactive.safe (attention_empty rfl), reset_inactive, rfl, rfl, rfl, rfl, rfl, rfl, hpeer, rfl, rfl, rfl, rfl,
    rfl, rfl, rfl, rfl, rfl, rfl, rfl, rfl, rfl, rfl, rfl, rfl⟩

end Sys2Proof.Machine
end

section
/-! PROOF. The Line Link, obligations O21 to O24: the frame chosen at a quiet interval, how an attempt ends, and what the
receiver does with what it hears. -/

namespace Sys2Proof.Machine

open Sys2Proof

set_option Elab.async false

/-! ## Frames of blocks -/

/-- A state agrees with itself in every part. -/
theorem OnlyChanges.refl (l : List Block) (s : State) : OnlyChanges l s s := fun b _ => by cases b <;> rfl

/-- One frame after another. -/
theorem OnlyChanges.trans {l : List Block} {s t u : State} (h : OnlyChanges l s t) (g : OnlyChanges l t u) :
    OnlyChanges l s u := fun b hb => by
  have h1 := h b hb
  have g1 := g b hb
  cases b <;> exact Eq.trans g1 h1

/-- A frame holds with more parts listed. -/
theorem OnlyChanges.mono {l m : List Block} {s t : State} (h : OnlyChanges l s t) (sub : l ⊆ m) : OnlyChanges m s t :=
  fun b hb => h b (fun x => hb (sub x))

theorem raise_only (k : EventKind) (s : State) : OnlyChanges [.port] s (raise k s) :=
  fun b hb => by cases b <;> simp at hb <;> simp [sameBlock]

theorem placeHandoff_only (f : HandoffFrame) (s : State) : OnlyChanges [.link] s (placeHandoff f s) :=
  fun b hb => by cases b <;> simp at hb <;> simp [sameBlock]

theorem setPeer_only (n : Nat) (e : PeerEntry) (s : State) : OnlyChanges [.peers] s (s.setPeer n e) :=
  fun b hb => by cases b <;> simp at hb <;> simp [sameBlock, State.setPeer]

theorem putRecords_only (rs : List PackRecord) (s : State) : OnlyChanges [.store] s (putRecords rs s) :=
  fun b hb => by cases b <;> simp at hb <;> simp [sameBlock]

theorem putReservations_only (rs : List Reservation) (s : State) : OnlyChanges [.store] s (putReservations rs s) :=
  fun b hb => by cases b <;> simp at hb <;> simp [sameBlock]

theorem updateRecord_only (id : PackId) (f : PackRecord → PackRecord) (s : State) :
    OnlyChanges [.store] s (updateRecord id f s) := putRecords_only _ s

theorem handoffNote_only (id : PackId) (n : Nat) (o : HandoffOutcome) (s : State) :
    OnlyChanges [.store] s (handoffNote id n o s) :=
  fun b hb => by cases b <;> simp at hb <;> rfl

/-- Replacing the entry of a station of the line changes that entry alone. -/
theorem entryBecomes_setPeer {n : Nat} (h : stationOk n = true) (e : PeerEntry) (s : State) :
    EntryBecomes n e s (s.setPeer n e) :=
  ⟨peer_setPeer_same h e, fun _ hm => peer_setPeer_other s hm e, setPeer_peers s n e, setPeer_only n e s⟩

/-- The answer of a command that acts while the blocks are active, in a ready state. -/
theorem next_whenActive {s : State} (h : Ready s) (act : State → State) :
    (.next (whenActive act s) : Answer) = .next (act s) := by rw [whenActive_ready h]

/-! ## The transmitter -/

/-- What the end of a quiet interval does at an ACTIVE link with no attempt on the line (R12). -/
theorem exec_quietIntervalEnd {s : State} (h : Ready s) (hl : s.link.state = .active) (ha : s.link.attempt = none) :
    exec .quietIntervalEnd s = .next (match chooseFrame s.link with
      | some f => { s with link := { s.link with attempt := some (attemptOn s.link f) } }
      | none => s) := by
  refine (next_whenActive h _).trans ?_
  rw [if_pos ⟨hl, ha⟩]
  cases chooseFrame s.link <;> rfl

/-- Settles O21: the frame attempted is the one that R12 chooses, and the copy of a STATE carries the echo. -/
theorem quietIntervalChoosesFrame : Obligations.QuietIntervalChoosesFrame := by
  intro s h hl ha
  rw [exec_quietIntervalEnd h hl ha]
  refine ⟨fun f hf => ?_, fun x rest hf hq hs => ?_, fun f hf hs hq => ?_, fun f hf hs hq hj => ?_,
    fun hf hs hq hj => ?_⟩
  · simp [chooseFrame, hf, attemptOn, sentCopy, isState]
  · have hc : chooseFrame s.link = some (.handoff x) := by
      rcases hs with hs | hs
      · simp [chooseFrame, hf, hq, hs]
      · cases hst : s.link.stateSlot <;> simp [chooseFrame, hf, hq, hst, hs]
    simp [hc, attemptOn, sentCopy, isState]
  · have hc : chooseFrame s.link = some (.state f) := by
      rcases hq with hq | hq
      · simp [chooseFrame, hf, hs, hq]
      · cases hst : s.link.queue <;> simp [chooseFrame, hf, hs, hst, hq]
    simp [hc, attemptOn, sentCopy, isState]
  · simp [chooseFrame, hf, hs, hq, hj, attemptOn, sentCopy, isState]
  · simp [chooseFrame, hf, hs, hq, hj]

/-- An attempt that ends with nothing sent (R4, R5, R13). -/
theorem endAttempt_is (a : Attempt) (s : State) :
    endAttempt a s = { s with link := { s.link with
      attempt := none
      stateOverruns := if isState a.frame = true ∧ a.replaced = true then min (s.link.stateOverruns + 1) 65535
        else s.link.stateOverruns } } := by
  unfold endAttempt
  by_cases h : isState a.frame = true ∧ a.replaced = true
  · simp [h, State.withLink, satSucc]
  · rw [if_neg h, if_neg (by simpa using h)]
    rfl

/-- The link after an aborted attempt, before any clash (R5). -/
def Link.afterAbort (a : Attempt) (l : Link) : Link :=
  { l with
    attempt := none
    suspicion := l.suspicion + 1
    stateOverruns := if isState a.frame = true ∧ a.replaced = true then min (l.stateOverruns + 1) 65535
      else l.stateOverruns }

/-- An aborted attempt counts, and the third in a row enters CLASHED (R5, R7). -/
theorem abortAttempt_is (a : Attempt) (s : State) :
    abortAttempt a s = if 3 ≤ s.link.suspicion + 1 then enterClashed .aborts (s.withLink (s.link.afterAbort a))
      else s.withLink (s.link.afterAbort a) := by
  unfold abortAttempt
  rw [endAttempt_is]
  rfl

/-- Settles O22: both endings are `endAttempt`; an abort counts, and the third enters CLASHED. -/
theorem attemptLostOrAborted : Obligations.AttemptLostOrAborted := by
  intro a bit s h ha
  refine ⟨fun hk hd => ?_, fun level hd hn => ?_⟩
  · refine (next_whenActive h _).trans ?_
    simp only [ha, hk, hd, and_self, if_true, endAttempt_is]
  · have he : exec (.frameAbort bit) s = .next (abortAttempt a s) := by
      refine (next_whenActive h _).trans ?_
      simp only [ha, hd, if_neg hn]
    rw [he, abortAttempt_is]
    refine ⟨fun hs => ?_, fun hs hl => ?_⟩
    · rw [if_neg (by omega)]
      rfl
    · rw [if_pos (by omega)]
      exact ⟨_, rfl, enterClashed_is (s := s.withLink (s.link.afterAbort a)) .aborts hl⟩

/-- Settles O23, by the slot of the frame that was sent. -/
theorem completedFrameLeaves : Obligations.CompletedFrameLeaves := by
  intro a s h ha
  have he : exec .frameComplete s = .next (completeAttempt a s) := by
    refine (next_whenActive h _).trans ?_
    simp only [ha]
  rw [he]
  refine ⟨fun f hf => ?_, fun f hf => ?_, fun f hf => ?_, fun f rest hf hq => ?_⟩
  · simp [completeAttempt, hf, State.withLink]
  · simp [completeAttempt, hf, State.withLink]
  · cases hu : a.underTest <;> simp [completeAttempt, hf, State.withLink, hu]
  · simp [completeAttempt, hf, State.withLink, hq]

/-! ## The receiver -/

/-- An error heard while no frame of the station's own is on the line (R10). -/
theorem hearError_is {s : State} (h : active s = true) (ha : s.link.attempt = none) :
    hearError s = { s with link := { s.link with
      receiveErrors := min (s.link.receiveErrors + 1) 255
      receiveTotal := min (s.link.receiveTotal + 1) 4294967295 } } := by
  unfold hearError receiving
  rw [h, ha]
  rfl

/-- The station to which a frame is addressed: that of a handoff frame's head; the other classes go to all. -/
def frameDestination : Frame → Option Nat
  | .handoff f => some (handoffHead f).destination
  | .alarm _ => none
  | .state _ => none
  | .join _ => none

/-- What the commands that receive a frame have in common: the frame is heard under its ranges, its sender and, for a
handoff frame, its destination. -/
def hears (x : Frame) (act : State → State) (s : State) : State :=
  hearFrame (frameOk x) (frameSender x) (frameDestination x) act s

/-- A command that receives a frame hears that frame; the rule it goes to takes an ALARM, and every handoff frame but an
OFFER, from an ADMITTED sender alone. -/
theorem exec_receivedFrame {c : Instr} {x : Frame} (hx : receivedFrame c = some x) :
    ∃ act, (∀ s, exec c s = .next (whenActive (hears x act) s))
      ∧ ((∃ f, x = .alarm f) ∨ (∃ y, x = .handoff y ∧ ∀ f, y ≠ .offer f) →
          ∃ take, act = fromAdmitted (frameSender x) take) := by
  unfold receivedFrame at hx
  split at hx <;> cases hx
  case h_1 | h_2 =>
    refine ⟨_, fun s => rfl, ?_⟩
    rintro (⟨_, h⟩ | ⟨_, h, _⟩) <;> cases h
  case h_4 f =>
    refine ⟨_, fun s => rfl, ?_⟩
    rintro (⟨_, h⟩ | ⟨_, h, hn⟩) <;> cases h
    exact absurd rfl (hn f)
  all_goals exact ⟨_, fun s => rfl, fun _ => ⟨_, rfl⟩⟩

theorem frameSender_ok {x : Frame} (h : frameOk x = true) : stationOk (frameSender x) = true := by
  cases x with
  | alarm f => simp [frameOk, alarmOk] at h; simp_all [frameSender]
  | state f => simp [frameOk, stateOk] at h; simp_all [frameSender]
  | join f => simp [frameOk, joinOk] at h; simp_all [frameSender]
  | handoff f =>
    cases f <;> simp [frameOk, handoffOk, headOk] at h <;> simp_all [frameSender, handoffHead]

/-- Settles O24: the tests of `hearFrame` in their order, for whatever rule the frame would go to. -/
theorem receiveErrorsCounted : Obligations.ReceiveErrorsCounted := by
  refine ⟨fun c s h ha hc => ?_, fun c x s h ha hx => ?_⟩
  · have he : exec c s = .next (hearError s) := by
      rcases hc with rfl | rfl | ⟨n, rfl, hn⟩ | ⟨bytes, rfl, hb⟩
      · exact next_whenActive h _
      · exact next_whenActive h _
      · exact (next_whenActive h _).trans (by simp only [if_pos hn])
      · exact (next_whenActive h _).trans (by simp only [if_pos hb])
    rw [he, hearError_is h.active ha]
  · obtain ⟨act, he, hact⟩ := exec_receivedFrame hx
    have hr : receiving s = true := by simp [receiving, h.active, ha]
    rw [he, whenActive_ready h, hears]
    unfold hearFrame
    simp only [hr, if_true]
    refine ⟨fun ho => ?_, fun ho hn hl => ?_, fun ho hn hl => ?_, fun y ho hn hy hd => ?_, fun ho hn had hk => ?_⟩
    · rw [if_neg (by simp [ho])]
      rfl
    · rw [if_pos ho, if_pos hn]
      exact ⟨_, rfl, enterClashed_is _ hl⟩
    · rw [if_pos ho, if_pos hn, enterClashed, if_pos hl]
    · subst hy
      rw [if_pos ho, if_neg hn, if_neg (by simpa [frameDestination] using hd)]
    · obtain ⟨take, rfl⟩ := hact (hk.imp_right (fun ⟨y, hy, _, hf⟩ => ⟨y, hy, hf⟩))
      rw [if_pos ho, if_neg hn, if_pos, fromAdmitted, if_neg had]
      · exact ⟨_, rfl, entryBecomes_setPeer (frameSender_ok ho) _ s⟩
      · rcases hk with ⟨f, rfl⟩ | ⟨y, rfl, hd, _⟩
        · rfl
        · simp [frameDestination, hd]

end Sys2Proof.Machine
end

section
/-! PROOF. STATE, JOIN and ALARM received, obligations O25 to O27. -/

namespace Sys2Proof.Machine

open Sys2Proof

set_option Elab.async false

/-! ## Outcomes in the window -/

/-- Outcomes recorded one after the other, said as in Safety (R27, R28). -/
theorem record_outcomes (c : ArrivalCause) (os : List Arrival) : ∀ e : PeerEntry,
    os.foldl (fun e o => e.record o c) e = e.outcomes c os := by
  induction os with
  | nil => exact fun e => rfl
  | cons o os ih =>
    intro e
    rw [List.foldl_cons, ih, PeerEntry.outcomes]
    congr 1
    cases o <;> simp [PeerEntry.record, stepAfter]

/-- The window before its last outcome holds the newest first, as far as it reaches. -/
theorem outcomes_window_take (c : ArrivalCause) (os : List Arrival) : ∀ e : PeerEntry,
    (e.outcomes c os).window.take 8 = (os.reverse ++ e.window).take 8 := by
  induction os with
  | nil => exact fun e => rfl
  | cons o os ih =>
    intro e
    rw [PeerEntry.outcomes, ih]
    simp only [List.reverse_cons, List.append_assoc, List.singleton_append, List.take_append, List.take_take]
    congr 2
    omega

/-- The window after outcomes that end in `o`. -/
theorem outcomes_window (c : ArrivalCause) (os : List Arrival) (o : Arrival) (e : PeerEntry) :
    (e.outcomes c (os ++ [o])).window = (o :: (os.reverse ++ e.window)).take 8 := by
  rw [← record_outcomes, List.foldl_append, record_outcomes, record_outcomes]
  have h := outcomes_window_take c os e
  change (o :: (e.outcomes c os).window).take 8 = _
  have take7 : ∀ l : List Arrival, (o :: l).take 8 = o :: (l.take 8).take 7 := fun l => by simp [List.take_take]
  rw [take7, h, ← take7]

/-- The entry of a station whose STATE is taken, by the outcomes of its sequence number (R26). -/
theorem takeState_entry (f : StateFrame) (e : PeerEntry) :
    e.takeState f = { e.outcomes .sequence (stateOutcomes f.sequence e.lastSequence) with
      lastSequence := some f.sequence, published := some (publishedOf f), silenceTimer := some 3 } := by
  unfold PeerEntry.takeState
  rw [record_outcomes]

/-- Outcomes change the window, its newest cause and the step alone. -/
theorem outcomes_admission (c : ArrivalCause) (os : List Arrival) : ∀ e : PeerEntry,
    (e.outcomes c os).admission = e.admission := by
  induction os with
  | nil => exact fun e => rfl
  | cons o os ih => exact fun e => by rw [PeerEntry.outcomes, ih]

/-! ## STATE received -/

/-- A STATE of another station, heard whole, is examined and taken or discarded. -/
theorem exec_stateReceived {f : StateFrame} {s : State} (h : Ready s) (ha : s.link.attempt = none)
    (hok : stateOk f = true) (hn : f.station ≠ s.cfg.station) :
    exec (.stateReceived f) s = .next (takeState f s) :=
  (next_whenActive h _).trans (by rw [hearFrame_heard h ha _ hok hn (by simp)])

/-- The examination of an unheard list changes no entry. -/
theorem examineUnheard_entries (f : StateFrame) (s : State) :
    (examineUnheard f s).peers.entries = s.peers.entries := by
  unfold examineUnheard
  (repeat' split) <;> simp [peerChange]

theorem examineUnheard_peer (f : StateFrame) (s : State) (n : Nat) : (examineUnheard f s).peer n = s.peer n := by
  simp only [State.peer, examineUnheard_entries]

/-- An echo added changes no entry. -/
theorem addEcho_entries (echo : Nat) (s : State) : (addEcho echo s).peers.entries = s.peers.entries := by
  unfold addEcho
  dsimp only
  split <;> simp

/-- An echo joins the current bucket; a sum above 64 raises LINE ERRORS while the hold-off is 0 (R38). -/
theorem addEcho_is (echo : Nat) (s : State) {q : List Nat}
    (hq : q = (s.peers.echo.headD 0 + echo) :: s.peers.echo.tail) :
    addEcho echo s = if 64 < q.sum ∧ s.peers.holdOff = 0 then
        raise .lineErrors { s with peers := { s.peers with echo := q, holdOff := 8 } }
      else { s with peers := { s.peers with echo := q } } := by
  subst hq
  rfl

/-- Which outcomes the sequence number of a STATE gives (R26). -/
theorem stateOutcomes_is {seq : Nat} {last : Option Nat} {os : List Arrival} (h0 : last = none → os = [.hit])
    (h1 : ∀ l d, last = some l → d = (seq + 16 - l) % 16 →
      os = if d = 0 then [] else List.replicate (d - 1) .miss ++ [.hit]) : stateOutcomes seq last = os := by
  cases last with
  | none => exact (h0 rfl).symm
  | some l => exact (h1 l _ rfl rfl).symm

/-- The state after a STATE was taken, before its values are handed over. -/
def stateTaken (f : StateFrame) (u : State) : State :=
  let s1 := u.setPeer f.station ((u.peer f.station).takeState f)
  if (s1.peer f.station).step = .inStep then addEcho f.echo s1 else s1

theorem stateTaken_entries (f : StateFrame) (u : State) : (stateTaken f u).peers.entries =
    (u.setPeer f.station ((u.peer f.station).takeState f)).peers.entries := by
  unfold stateTaken
  simp only
  split <;> simp [addEcho_entries]

/-- The entries after a STATE was taken and handed over. -/
theorem takePeerState_entries (f : StateFrame) (u : State) : (takePeerState f u).peers.entries =
    (u.setPeer f.station ((u.peer f.station).takeState f)).peers.entries :=
  (congrArg PeerTable.entries (peerHandover_frame f.station (stateTaken f u)).1).trans (stateTaken_entries f u)

theorem takePeerState_peer (f : StateFrame) (u : State) (n : Nat) :
    (takePeerState f u).peer n = (u.setPeer f.station ((u.peer f.station).takeState f)).peer n := by
  simp only [State.peer, takePeerState_entries]

theorem takePeerState_only (f : StateFrame) (u : State) :
    OnlyChanges [.peers, .link, .store, .engine, .atm, .zone, .tally, .port] u (takePeerState f u) :=
  fun b hb => by cases b <;> simp at hb <;> simp [sameBlock]

/-- Out of step nothing but the entry has changed before the handover. -/
theorem stateTaken_outOfStep {f : StateFrame} {u : State} (hn : stationOk f.station = true)
    (h : ((u.peer f.station).takeState f).step ≠ .inStep) :
    stateTaken f u = { u with peers := { u.peers with entries := (takePeerState f u).peers.entries } } := by
  unfold stateTaken
  rw [takePeerState_entries]
  simp only [peer_setPeer_same hn, if_neg h]
  rfl

/-- In step the echo has joined the current bucket before the handover. -/
theorem stateTaken_inStep {f : StateFrame} {u : State} (hn : stationOk f.station = true)
    (h : ((u.peer f.station).takeState f).step = .inStep) {q : List Nat}
    (hq : q = (u.peers.echo.headD 0 + f.echo) :: u.peers.echo.tail) :
    stateTaken f u = if 64 < q.sum ∧ u.peers.holdOff = 0 then
        raise .lineErrors { u with
          peers := { u.peers with entries := (takePeerState f u).peers.entries, echo := q, holdOff := 8 } }
      else { u with peers := { u.peers with entries := (takePeerState f u).peers.entries, echo := q } } := by
  unfold stateTaken
  rw [takePeerState_entries]
  simp only [peer_setPeer_same hn, if_pos h]
  exact addEcho_is f.echo _ hq

/-- The state after a restart and the frame that told of it: the restart, then the entry counted as unadmitted. -/
theorem countUnadmitted_becomes {n : Nat} (h : stationOk n = true) (s : State) :
    EntryBecomes n { (s.peer n).discarded with heard := true, silenceTimer := some 3 } s (countUnadmitted n s) :=
  entryBecomes_setPeer h _ s

theorem countDiscard_becomes {n : Nat} (h : stationOk n = true) (s : State) :
    EntryBecomes n (s.peer n).discarded s (countDiscard n s) := entryBecomes_setPeer h _ s

/-- Settles O25, by the tests of `takeState` in their order. -/
theorem stateTakenOrDiscarded : Obligations.StateTakenOrDiscarded := by
  intro f s h ha hok hn
  have hf : stationOk f.station = true ∧ increasing f.unheard = true := by
    simp [stateOk] at hok; exact ⟨by tauto, by tauto⟩
  have hp : ∀ n, (examineUnheard f s).peer n = s.peer n := examineUnheard_peer f s
  have hx : OnlyChanges [.peers, .link, .port] s (examineUnheard f s) :=
    fun b hb => by cases b <;> simp at hb <;> simp [sameBlock]
  refine ⟨examineUnheard f s, takeState f s, exec_stateReceived h ha hok hn, examineUnheard_is hf.2 s, ?_, ?_, ?_, ?_⟩
  · intro had he hr hz hq
    have ht : takeState f s = takePeerState f (examineUnheard f s) := by
      simp [takeState, hp, had, he, hr, hz, hq]
    generalize examineUnheard f s = u at hp hx ht
    rw [ht]
    have hself : (takePeerState f u).peer f.station = (u.peer f.station).takeState f := by
      rw [takePeerState_peer, peer_setPeer_same hf.1]
    have hentry := takeState_entry f (u.peer f.station)
    refine ⟨?_, ?_, ?_, ?_, ?_, ?_, ?_, fun m hm => ?_, ⟨stateTaken f u, peerHandover_is .., ?_, ?_⟩, ?_⟩
    · rw [hself, hentry]
    · rw [hself, hentry]
    · rw [hself, hentry]
    · rw [hself, hentry, ← had, ← hp]
      exact outcomes_admission ..
    · intro hl
      rw [hself, hentry, hp, hl]
      exact outcomes_window .sequence [] .hit _
    · rintro l d hl hd
      rw [hself, hentry, hp, stateOutcomes_is (os := if d = 0 then [] else List.replicate (d - 1) .miss ++ [.hit])
        (by simp [hl]) (by rintro l' d' hl' rfl; cases hl.symm.trans hl'; rw [hd])]
      by_cases hd0 : d = 0
      · simp only [if_pos hd0]
        rfl
      · simp only [if_neg hd0]
        exact (outcomes_window ..).trans (by simp)
    · intro os h0 h1
      rw [hself, hentry, hp, stateOutcomes_is h0 h1]
    · rw [takePeerState_peer, peer_setPeer_other _ hm, hp]
    · intro hs
      exact stateTaken_outOfStep hf.1 (by rwa [← hself])
    · intro q hs hq
      exact stateTaken_inStep hf.1 (by rwa [← hself]) hq
    · exact (hx.mono (by decide)).trans (takePeerState_only f u)
  · intro had he hd
    rw [← hp] at had he ⊢
    have ht : takeState f s = countDiscard f.station (examineUnheard f s) := by
      have hne : ¬((s.peer f.station).recordedRole = some f.role ∧ (s.peer f.station).recordedZone = some f.zone
          ∧ (s.peer f.station).recordedPeriod = some f.periodCode) := by tauto
      rw [takeState, if_pos had, if_neg (by simpa using he), hp, if_neg hne]
    rw [ht]
    exact countDiscard_becomes hf.1 _
  · intro had he
    rw [← hp] at had he
    have ht : takeState f s = countUnadmitted f.station (peerRestart f.station f.epoch (examineUnheard f s)) := by
      rw [takeState, if_pos had, if_pos he]
    rw [ht]
    exact ⟨_, peerRestart_is .., countUnadmitted_becomes hf.1 _⟩
  · intro had
    rw [← hp] at had ⊢
    have ht : takeState f s = countUnadmitted f.station (examineUnheard f s) := by rw [takeState, if_neg had]
    rw [ht]
    exact countUnadmitted_becomes hf.1 _

/-! ## JOIN received -/

/-- A JOIN of another station, heard whole, is taken. -/
theorem exec_joinReceived {f : JoinFrame} {s : State} (h : Ready s) (ha : s.link.attempt = none)
    (hok : joinOk f = true) (hn : f.station ≠ s.cfg.station) : exec (.joinReceived f) s = .next (takeJoin f s) :=
  (next_whenActive h _).trans (by rw [hearFrame_heard h ha _ hok hn (by simp)])

/-- The Peer Table after a JOIN was judged: the judged entry, and the note of the judgement. -/
theorem takeNewJoin_peers (f : JoinFrame) (s : State) :
    (takeNewJoin f s).peers = { s.peers with
      entries := (s.setPeer f.station (judgedEntry f (s.peer f.station) (judgeJoin f s))).peers.entries
      note := some
        { reason := match judgeJoin f s with | none => .admitted | some r => .refused r, station := f.station } } := by
  unfold takeNewJoin
  cases judgeJoin f s <;> simp [peerChange, State.setPeer, judgedEntry] <;> rfl

theorem takeNewJoin_peer (f : JoinFrame) (s : State) (n : Nat) :
    (takeNewJoin f s).peer n = (s.setPeer f.station (judgedEntry f (s.peer f.station) (judgeJoin f s))).peer n := by
  simp only [State.peer, takeNewJoin_peers]

theorem takeNewJoin_only (f : JoinFrame) (s : State) :
    OnlyChanges [.peers, .link, .store, .engine, .atm, .zone, .tally, .port] s (takeNewJoin f s) :=
  fun b hb => by cases b <;> simp at hb <;> simp [sameBlock]

/-- A recorded unique ID that does not speak against a JOIN. -/
theorem recordedId_agrees {f : JoinFrame} {e : PeerEntry} (h : e.recordedId = none ∨ e.recordedId = some f.uniqueId) :
    ∀ id, e.recordedId = some id → id = f.uniqueId := by
  rintro id hid
  rcases h with h | h <;> rw [h] at hid <;> cases hid
  rfl

/-- Settles O26, by the tests of `takeJoin` in their order; the judgement itself is `judgeJoin_is`. -/
theorem joinJudged : Obligations.JoinJudged := by
  intro f s h ha hok hn
  have hf : stationOk f.station = true := by simp [joinOk] at hok; tauto
  rw [exec_joinReceived h ha hok hn]
  have j := judgeJoin_is f s
  have hself : (takeNewJoin f s).peer f.station = judgedEntry f (s.peer f.station) (judgeJoin f s) := by
    rw [takeNewJoin_peer, peer_setPeer_same hf]
  refine ⟨fun had => ?_, fun had hi he hr hz hq => ?_, fun had hi he hd => ?_, fun had hi he => ?_, fun had hi => ?_⟩
  · rw [takeJoin, if_neg had]
    refine ⟨_, rfl, takeNewJoin_is f s, fun m hm => ?_, takeNewJoin_only f s, fun r hr => ?_, fun hq hi hm => ?_⟩
    · rw [takeNewJoin_peer, peer_setPeer_other _ hm]
    · have hj : judgeJoin f s = some r := by
        rcases hr with ⟨rfl, hq⟩ | ⟨rfl, hq, hid⟩ | ⟨hq, hid, ⟨rfl, hl, hm⟩ | ⟨rfl, hm, hw⟩⟩
        · exact j.period hq
        · exact j.clash hq hid
        · exact (j.listed hq (recordedId_agrees hid) hm).2 hl
        · exact j.closed hq (recordedId_agrees hid) hm hw
      rw [hself, takeNewJoin_peers, hj]
      exact ⟨rfl, rfl, rfl, rfl, rfl, rfl, rfl, rfl⟩
    · have hj : judgeJoin f s = none := by
        rcases hm with hm | ⟨hm, hl⟩
        · exact j.opened hq (recordedId_agrees hi) hm
        · exact (j.listed hq (recordedId_agrees hi) hm).1 hl
      have hid : (s.peer f.station).recordedId.getD f.uniqueId = f.uniqueId := by
        rcases hi with hi | hi <;> rw [hi] <;> rfl
      rw [hself, takeNewJoin_peers, hj]
      exact ⟨rfl, congrArg some hid, rfl, rfl, rfl, rfl, rfl, rfl, rfl, rfl, rfl, rfl, rfl⟩
  · simp [takeJoin, had, takeAdmittedJoin, hi, he, hr, hz, hq]
  · have hne : ¬((s.peer f.station).recordedRole = some f.role ∧ (s.peer f.station).recordedZone = some f.zone
        ∧ (s.peer f.station).recordedPeriod = some f.periodCode) := by tauto
    simp only [takeJoin, had, takeAdmittedJoin, hi, he, if_neg hne, if_true, ne_eq, not_true_eq_false, if_false]
    exact ⟨_, rfl, countDiscard_becomes hf s⟩
  · simp only [takeJoin, had, takeAdmittedJoin, hi, if_neg he, if_true, ne_eq, not_true_eq_false, if_false]
    exact ⟨_, _, rfl, peerRestart_is .., takeNewJoin_is ..⟩
  · simp only [takeJoin, had, takeAdmittedJoin, hi, if_true, ne_eq, not_false_eq_true]
    refine ⟨_, rfl, peer_setPeer_same hf _, fun m hm => peer_setPeer_other _ hm _, rfl, ?_, ?_⟩
    · exact raise_port_congr _ (by simp [State.setPeer])
    · intro b hb
      cases b <;> simp at hb <;> simp [sameBlock, peerChange, State.setPeer]

/-! ## ALARM received -/

/-- An ALARM of an ADMITTED station, heard whole, is judged. -/
theorem exec_alarmReceived {f : AlarmFrame} {s : State} (h : Ready s) (ha : s.link.attempt = none)
    (hok : alarmOk f = true) (hn : f.station ≠ s.cfg.station) (had : (s.peer f.station).admission = .admitted) :
    exec (.alarmReceived f) s = .next (judgeAlarm f s) :=
  (next_whenActive h _).trans (by rw [hearFrame_heard h ha _ hok hn (by simp), fromAdmitted, if_pos had])

/-- Placing handoff frames leaves the ALARM slot. -/
theorem placedAll_alarmSlot (fs : List HandoffFrame) : ∀ s : State,
    (placedAll fs s).link.alarmSlot = s.link.alarmSlot := by
  induction fs with
  | nil => exact fun s => rfl
  | cons f fs ih =>
    intro s
    rw [placedAll_cons, ih, placeHandoff]
    (repeat' split) <;> rfl

/-- An asserted alarm level drops the transfer permit (R74). -/
theorem StoreIs.noPermit {u : PackStore} {t : State} (h : StoreIs u t) (hl : 2 ≤ levelRank t.zone.level) :
    t.store.permit = false := by
  rw [h]
  simp [permitHolds, isAlarm, hl]

/-- An order to unload reaches an engine whose contactor is closed. -/
theorem ordered_closed {e : Engine} (p : UnloadPurpose) (h : contactorClosed e.state = true) :
    (e.ordered p).state = .unload := by
  unfold Engine.ordered
  cases he : e.state <;> rw [he] at h <;> simp [contactorClosed] at h <;> simp [Engine.unloading]

/-- What a rise to an ALARM level below RELEASED leaves of each block. -/
theorem LevelChanged.rise {l : ZoneLevel} {cause : ZoneCause} {o : Origin} {s t : State}
    (h : LevelChanged l false (some cause) o s t) (hl : 2 ≤ levelRank l) (hr : l ≠ .released) :
    t.zone.level = l ∧ t.zone.cause = some cause ∧ t.zone.testFlag = false
      ∧ t.zone.countdown = decide (l = .countdown) ∧ t.zone.suppression = s.zone.suppression
      ∧ t.zone.releaseCount = (if l = .countdown then 100 * s.cfg.releaseDelay else 0)
      ∧ t.zone.isolationLatch = s.zone.isolationLatch
      ∧ t.zone.note = some { level := l, testFlag := false, cause := some cause, origin := o }
      ∧ t.atm.feedPermit = false
      ∧ (s.link.state = .active → t.link.alarmSlot = some
          { station := s.cfg.station, zone := s.cfg.zone, level := l, testFlag := false, cause := cause })
      ∧ (isAlarm s.zone.level = false → t.tally.openLot = none ∧ t.store.reservations = []
          ∧ (contactorClosed s.engine.state = true → t.engine.state = .unload))
      ∧ t.store.permit = false
      ∧ OnlyChanges [.zone, .link, .engine, .store, .atm, .tally, .port] s t := by
  have hz := h.zone
  have hn : l ≠ .normal := by rintro rfl; simp [levelRank] at hl
  refine ⟨by rw [hz], by rw [hz], by rw [hz], by rw [hz], by rw [hz]; simp [hr], by rw [hz]; simp [hr], by rw [hz],
    by rw [hz], ?_, fun ha => ?_, fun ha => ?_, h.store.noPermit (by rw [hz]; exact hl), h.others⟩
  · rw [h.atm, if_neg hn]
    rfl
  · rw [h.link, placedAll_alarmSlot]
    simp only [Link.withAlarm, ha]
    rfl
  · have hrise : risesToAlarm s.zone.level l := ⟨by simpa [isAlarm] using ha, hl⟩
    refine ⟨?_, ?_, fun hc => ?_⟩
    · rw [h.tally, if_pos hrise, Tally.lotClosed]
      split
      · rfl
      · assumption
    · rw [h.store, if_pos hrise]
    · rw [h.engine, if_pos hrise]
      exact ordered_closed _ hc

/-- An ALARM frame of an ALARM level acts as a member's rise to that level (R156). -/
theorem takeAlarm_alarm {f : AlarmFrame} {s : State} (ht : f.testFlag = false) (hl : 2 ≤ levelRank f.level) :
    takeAlarm f s = memberRise f.level (.peer f.station (some f.cause)) s := by
  unfold takeAlarm
  rw [if_neg (by simp [ht])]
  cases hf : f.level <;> first | rfl | (rw [hf] at hl; simp [levelRank] at hl)

/-- Settles O27, by the level of the frame; each rise is a change of level. -/
theorem alarmRaisesLevel : Obligations.AlarmRaisesLevel := by
  intro f s h ha hok hn had
  have hf : stationOk f.station = true := by simp [alarmOk] at hok; tauto
  rw [exec_alarmReceived h ha hok hn had]
  refine ⟨fun hz hr => ?_, fun hz => ?_⟩
  · have hact : alarmMayAct s f = true := by simp [alarmMayAct, had, hr, hz]
    rw [judgeAlarm, if_pos hact]
    refine ⟨fun ht => ?_, fun ht hl hd => ?_, fun l ht hl => ?_, fun ht hl hd hlow => ?_, fun ht hl => ?_⟩
    · rw [takeAlarm, if_pos ht]
    · simp [takeAlarm, ht, hl, hd]
    · rw [takeAlarm_alarm ht (by rcases hl with ⟨hl, -⟩ | ⟨hl, -⟩ <;> [simp [hl, levelRank]; omega])]
      rcases hl with ⟨hl, hs, rfl⟩ | ⟨hl, hs, rfl⟩
      · have hc : LevelChanged .alarmUnconfirmed false (some .peer) (.peer f.station (some f.cause)) s
            (memberRise f.level (.peer f.station (some f.cause)) s) := by
          rw [memberRise, if_neg (by simp [hl, levelRank]), if_pos ⟨hl, hs⟩]
          exact changeLevel_is ..
        exact ⟨_, rfl, hc, hc.rise (by decide) (by decide)⟩
      · have hc : LevelChanged (confirmedLevel s) false (some .peer) (.peer f.station (some f.cause)) s
            (memberRise f.level (.peer f.station (some f.cause)) s) := by
          rw [memberRise, if_pos hl]
          exact confirmRise_is _ _ hs
        refine ⟨_, rfl, hc, hc.rise ?_ ?_⟩ <;> unfold confirmedLevel <;> split <;> decide
    · obtain ⟨n, hn⟩ := hd
      have he : (realDetectors s).isEmpty = false := by
        rw [Bool.eq_false_iff]
        exact fun x => (realDetectors_isEmpty s).1 x n hn
      have hk : takeAlarm f s = confirmRise (ownCause s) (.peer f.station (some f.cause)) s := by
        simp [takeAlarm, ht, hl, he]
      rw [hk]
      exact ⟨_, _, rfl, ownCause_is s ⟨n, hn.1, hn.2.1, hn.2.2.1⟩, confirmRise_is _ _ hlow⟩
    · rcases hl with hl | ⟨hl, hs⟩ | ⟨hl, hs⟩ | ⟨hl, hs⟩
      · simp [takeAlarm, ht, hl]
      · simp [takeAlarm, ht, hl, confirmRise, hs]
      · rw [takeAlarm_alarm ht (by simp [hl, levelRank]), memberRise, if_neg (by simp [hl, levelRank]),
          if_neg (fun x => by omega)]
      · rw [takeAlarm_alarm ht (by omega), memberRise, if_pos hl, confirmRise, if_pos hs]
  · have hact : alarmMayAct s f = false := by
      simp only [alarmMayAct, decide_eq_false_iff_not]
      rintro ⟨-, h1, h2⟩
      rcases hz with hz | hz
      · exact hz (Option.some.inj (h2.symm.trans h1))
      · exact hz h2
    rw [judgeAlarm, if_neg (by simp [hact])]
    exact ⟨_, rfl, countDiscard_becomes hf s⟩

end Sys2Proof.Machine
end

section
/-! PROOF. The handoff frames received, obligations O28 to O31. -/

namespace Sys2Proof.Machine

open Sys2Proof

set_option Elab.async false

/-! ## Heard whole -/

/-- A handoff frame of another station, addressed here and heard whole. -/
theorem next_heard {s : State} (h : Ready s) (ha : s.link.attempt = none) {ok : Bool} {n d : Nat} (hok : ok = true)
    (hn : n ≠ s.cfg.station) (hd : d = s.cfg.station) (act : State → State) :
    (.next (whenActive (hearFrame ok n (some d) act) s) : Answer) = .next (act s) := by
  rw [whenActive_ready h, hearFrame_heard h ha act hok hn (fun x hx => (Option.some.inj hx).symm.trans hd)]

/-- A handoff frame of an ADMITTED station, addressed here and heard whole. -/
theorem next_admitted {s : State} (h : Ready s) (ha : s.link.attempt = none) {ok : Bool} {n d : Nat} (hok : ok = true)
    (hn : n ≠ s.cfg.station) (hd : d = s.cfg.station) (had : (s.peer n).admission = .admitted) (act : State → State) :
    (.next (whenActive (hearFrame ok n (some d) (fromAdmitted n act)) s) : Answer) = .next (act s) := by
  rw [next_heard h ha hok hn hd, fromAdmitted, if_pos had]

/-! ## OFFER -/

/-- The energy of a clamped record (R69, R126). -/
theorem packEnergy_clamp (p : PackData) : packEnergy (clampPack p) = min p.eNom (p.residual.getD p.eNom) := by
  unfold packEnergy clampPack
  cases p.residual <;> simp [Nat.min_comm]

/-- The grant test of R71 for a clamped record, by the part that fails. -/
theorem grantTest_clamp (p : PackData) (s : State) : grantTest (clampPack p) s =
    if marksAny p.marks = true then some .quarantine
    else if atmosphereFeeds s = false then some .atmosphere
    else if effectiveLimit s < min p.eNom (p.residual.getD p.eNom) + heldSum s.store.records
        + reservedSum s.store.reservations then some .budget
    else none := by
  unfold grantTest
  rw [packEnergy_clamp]
  have hm : marksAny (clampPack p).marks = marksAny p.marks := rfl
  have hf : (s.atm.state ≠ .inert ∧ s.atm.state ≠ .watch) ↔ atmosphereFeeds s = false := by simp [atmosphereFeeds]
  simp only [hm, hf]

/-- An OFFER refused places its REFUSE, whatever the sender's entry has counted. -/
theorem placeRefuse_link (h : HandoffHead) (r : RefusalReason) {s t : State} (hl : t.link = s.link)
    (hc : t.cfg = s.cfg) : (placeRefuse h r t).link =
      (placeHandoff (.refuse { head := headTo s h.station h.packId h.offerNumber, reason := r }) s).link := by
  have hh : headTo t h.station h.packId h.offerNumber = headTo s h.station h.packId h.offerNumber := by
    simp [headTo, hc]
  rw [placeRefuse, hh]
  exact placeHandoff_link _ hl

/-- The reservation that an OFFER passing every test creates (R59, R69). -/
def newReservation (h : HandoffHead) (p : PackData) (s : State) : Reservation :=
  { station := h.station, packId := h.packId, offerNumber := h.offerNumber, number := s.store.nextReservation,
    pack := p, energy := if s.cfg.role = .chamber then packEnergy p else 0, holdTimer := some s.cfg.grantHold }

/-- What the creation of a reservation does. -/
theorem createReservation_is (h : HandoffHead) (p : PackData) (s : State) :
    StoreIs { s.store with
        reservations := s.store.reservations ++ [newReservation h p s]
        nextReservation := (s.store.nextReservation + 1) % 256
        note := some { packId := h.packId, station := h.station, outcome := .granted } } (createReservation h p s)
      ∧ (createReservation h p s).link = (placeHandoff (.grant
          { head := headTo s h.station h.packId h.offerNumber, reservation := s.store.nextReservation }) s).link
      ∧ OnlyChanges [.store, .link] s (createReservation h p s) := by
  let u := (putReservations (s.store.reservations ++ [newReservation h p s]) s).withStore
    { (putReservations (s.store.reservations ++ [newReservation h p s]) s).store with
      nextReservation := (s.store.nextReservation + 1) % 256 }
  have e : createReservation h p s
      = handoffNote h.packId h.station .granted (placeGrant (newReservation h p s) u) := rfl
  have hu : StoreIs { s.store with
      reservations := s.store.reservations ++ [newReservation h p s]
      nextReservation := (s.store.nextReservation + 1) % 256 } u := rfl
  rw [e]
  refine ⟨storeIs_handoffNote (storeIs_congr (t := placeGrant (newReservation h p s) u) hu (by simp) (by simp)
    (by simp [placeGrant]) (by simp) (by simp)) _ _ _, placeHandoff_link _ rfl, ?_⟩
  intro b hb
  cases b <;> simp at hb <;> simp [sameBlock, u]

/-- Settles O28, by the tests of `answerOffer` in their order. -/
theorem offerAnswered : Obligations.OfferAnswered := by
  intro f s h ha hok hn hd
  have hst : stationOk f.head.station = true := by simp [handoffOk, headOk] at hok; tauto
  have he : exec (.offerReceived f) s = .next (takeOffer f s) := next_heard h ha hok hn hd _
  rw [he]
  refine ⟨fun r hr => ?_, fun hrole had => ?_⟩
  · let u := if (s.peer f.head.station).admission = .admitted then s else countUnadmitted f.head.station s
    have hu : OnlyChanges [.peers] s u := by
      show OnlyChanges _ s (if _ then _ else _)
      split
      · exact .refl _ s
      · exact setPeer_only _ _ s
    have hp : (s.peer f.head.station).admission ≠ .admitted →
        (u.peer f.head.station).admission = (s.peer f.head.station).admission := by
      intro hna
      simp only [u, if_neg hna]
      rw [(countUnadmitted_becomes hst s).1]
      rfl
    have ht : takeOffer f s = placeRefuse f.head r u := by
      show answerOffer f u = _
      have hc : u.cfg = s.cfg := hu .cfg (by decide)
      rcases hr with ⟨hr, rfl⟩ | ⟨hr, hna, rfl⟩
      · rw [answerOffer, if_pos (by rw [hc]; exact hr)]
      · rw [answerOffer, if_neg (by rw [hc]; exact hr), if_pos (by rw [hp hna]; exact hna)]
    rw [ht]
    refine ⟨_, rfl, placeRefuse_link _ _ (hu .link (by decide)) (hu .cfg (by decide)), fun m hm => ?_, fun had => ?_,
      fun hna => ?_, ?_⟩
    · rw [peer_of_peers (s := u) (by simp [placeRefuse])]
      simp only [u]
      split
      · rfl
      · exact peer_setPeer_other _ hm _
    · simp [placeRefuse, u, had]
    · rw [peer_of_peers (s := u) (by simp [placeRefuse])]
      simp only [u, if_neg hna]
      exact peer_setPeer_same hst _
    · exact (hu.mono (by decide)).trans ((placeHandoff_only _ u).mono (by decide))
  · have hto : takeOffer f s = answerOffer f s := by rw [takeOffer, if_pos had]
    rw [hto]
    simp only [answerOffer, if_neg hrole, had, ne_eq, not_true_eq_false, if_false]
    refine ⟨fun v hv => ?_, fun r hv hr => ?_, fun hv hf1 hf2 he8 hlev hch => ?_⟩
    · rw [hv]
      rfl
    · have hr' : offerTests f.head (clampPack f.pack) s = some r := by
        unfold offerTests
        rw [grantTest_clamp]
        rcases hr with ⟨hr, rfl⟩ | ⟨hf1, hf2, ⟨h8, rfl⟩ | ⟨h8, hlev, rfl⟩ | ⟨h8, hlev, hch, hr⟩⟩
        · rw [if_pos (by simpa [Option.isSome_iff_ne_none] using hr)]
        · rw [if_neg (by simp [hf1, hf2]), if_pos h8]
        · rw [if_neg (by simp [hf1, hf2]), if_neg (by omega), if_pos hlev]
        · rw [if_neg (by simp [hf1, hf2]), if_neg (by omega), if_neg (by simp [hlev]), if_pos hch]
          rcases hr with ⟨h1, rfl⟩ | ⟨h1, h2, rfl⟩ | ⟨h1, h2, rfl, h3⟩
          · rw [if_pos h1]
          · rw [if_neg (by simp [h1]), if_pos h2]
          · rw [if_neg (by simp [h1]), if_neg (by simp [h2]), if_pos h3]
      rw [hv, hr']
      rfl
    · have hr' : offerTests f.head (clampPack f.pack) s = none := by
        unfold offerTests
        rw [grantTest_clamp, if_neg (by simp [hf1, hf2]), if_neg (by omega), if_neg (by simp [hlev])]
        by_cases hr : s.cfg.role = .chamber
        · obtain ⟨h1, h2, h3⟩ := hch hr
          rw [if_pos hr, if_neg (by simp [h1]), if_neg (by simp [h2]), if_neg (by omega)]
        · rw [if_neg hr]
      rw [hv, hr']
      obtain ⟨h1, h2, h3⟩ := createReservation_is f.head (clampPack f.pack) s
      exact ⟨_, newReservation f.head (clampPack f.pack) s, rfl, rfl, rfl, rfl, rfl, rfl, rfl,
        by rw [← packEnergy_clamp]; rfl, h1, h2, h3⟩

/-! ## GRANT and REFUSE -/

/-- `StoreIs` with a table of quiet counts. -/
theorem storeIs_quiet {u : PackStore} {s t : State} {q : Vector Nat 31} (h : StoreIs u s)
    (ht : t = s.withStore { s.store with quiet := q }) : StoreIs { u with quiet := q } t := by
  subst ht
  have hp : permitHolds (s.withStore { s.store with quiet := q }) = permitHolds s := rfl
  have he : effectiveLimit (s.withStore { s.store with quiet := q }) = effectiveLimit s := rfl
  unfold StoreIs at *
  rw [hp, he, State.withStore_store, h]
  rfl

/-- A raised refusal streak: the entry of the station, its quiet count, and nothing else (R67). -/
theorem raiseStreak_is {n : Nat} (hn : stationOk n = true) (s : State) :
    (raiseStreak n s).peer n = { s.peer n with streak := min ((s.peer n).streak + 1) 255 }
      ∧ (∀ m, m ≠ n → (raiseStreak n s).peer m = s.peer m ∧ at1 0 (raiseStreak n s).store.quiet m = at1 0 s.store.quiet m)
      ∧ at1 0 (raiseStreak n s).store.quiet n = 0
      ∧ (raiseStreak n s).store = { s.store with quiet := (raiseStreak n s).store.quiet }
      ∧ OnlyChanges [.store, .peers] s (raiseStreak n s) := by
  refine ⟨peer_setPeer_same hn _, fun m hm => ⟨peer_setPeer_other _ hm _, ?_⟩, ?_, rfl, ?_⟩
  · show at1 0 (set1 s.store.quiet n 0) m = _
    rw [at1_set1, if_neg (fun x => hm x.1)]
  · show at1 0 (set1 s.store.quiet n 0) n = _
    simp only [stationOk, decide_eq_true_eq] at hn
    rw [at1_set1, if_pos ⟨rfl, hn⟩]
  · intro b hb
    cases b <;> simp at hb <;> simp [sameBlock]

theorem raisesStreak_iff (r : RefusalReason) :
    raisesStreak r = true ↔ r = .full ∨ r = .budget ∨ r = .atmosphere := by
  cases r <;> decide

/-- The state of a matching REFUSE before its note: the record READY, the streak raised where the reason raises it. -/
def refusedRecord (h : HandoffHead) (r : RefusalReason) (s : State) : State :=
  let s1 := updateRecord h.packId (fun r => { r.into .ready with backOff := some 10 }) s
  if raisesStreak r then raiseStreak h.station s1 else s1

/-- A matching REFUSE leaves the record READY, and the quiet counts as the streak needs them. -/
theorem refusedRecord_is (h : HandoffHead) (r : RefusalReason) (s : State) :
    StoreIs { s.store with
        records := recordsWith h.packId (fun x => { x with
          state := .ready, offerTimer := none, transitTimer := none, backOff := some 10 }) s
        quiet := (refusedRecord h r s).store.quiet } (refusedRecord h r s) := by
  let u := updateRecord h.packId (fun r => { r.into .ready with backOff := some 10 }) s
  have hu : StoreIs { s.store with records := recordsWith h.packId (fun x => { x with
      state := .ready, offerTimer := none, transitTimer := none, backOff := some 10 }) s } u := rfl
  show StoreIs _ (if _ then raiseStreak h.station u else u)
  unfold refusedRecord
  dsimp only
  split
  · exact storeIs_congr (storeIs_quiet hu rfl) rfl rfl rfl rfl rfl
  · exact hu

/-- Settles O29: the two frames of an offer's answer, with a record OFFERED that matches and without. -/
theorem grantOrRefuseTaken : Obligations.GrantOrRefuseTaken := by
  intro h s hs ha hok hn hd had
  have hst : stationOk h.station = true := by simp [headOk] at hok; tauto
  have hg : ∀ n, fitsBytes 1 n = true →
      exec (.grantReceived { head := h, reservation := n }) s = .next (takeGrant h s) :=
    fun n hf => next_admitted hs ha (by simp [handoffOk, hok, hf]) hn hd had _
  have hr : ∀ r, exec (.refuseReceived { head := h, reason := r }) s
      = .next (takeRefuse { head := h, reason := r } s) := fun r => next_admitted hs ha hok hn hd had _
  refine ⟨fun n hf hm => ?_, fun n hf hm => ?_, fun r hm => ?_, fun r hm => ?_⟩
  · rw [hg n hf, takeGrant, if_pos hm]
    refine ⟨_, rfl, rfl, peer_setPeer_same hst _, fun m hne => ?_, ?_⟩
    · exact (peer_setPeer_other _ hne _).trans (peer_of_peers (by simp) m)
    · intro b hb
      cases b <;> simp at hb <;> simp [sameBlock]
  · rw [hg n hf, takeGrant, if_neg (by simp [hm])]
    split <;> rfl
  · have ht : takeRefuse { head := h, reason := r } s
        = handoffNote h.packId h.station (.refused r) (refusedRecord h r s) := by
      rw [takeRefuse, if_pos hm]
      rfl
    rw [hr, ht]
    let u := updateRecord h.packId (fun r => { r.into .ready with backOff := some 10 }) s
    obtain ⟨h1, h2, h3, -, h5⟩ := raiseStreak_is hst u
    have hraise : raisesStreak r = true → refusedRecord h r s = raiseStreak h.station u := fun e => if_pos e
    have hkeep : ¬raisesStreak r = true → refusedRecord h r s = u := fun e => if_neg e
    refine ⟨_, rfl, storeIs_handoffNote (refusedRecord_is h r s) _ _ _, fun hx => ?_, fun hx => ?_, fun m hne => ?_, ?_⟩
    · rw [hraise ((raisesStreak_iff r).2 hx)]
      exact ⟨h1, h3⟩
    · rw [hkeep (mt (raisesStreak_iff r).1 hx)]
      exact ⟨rfl, rfl⟩
    · by_cases e : raisesStreak r = true
      · rw [hraise e]
        exact h2 m hne
      · rw [hkeep e]
        exact ⟨rfl, rfl⟩
    · have hu : OnlyChanges [.store, .peers] s u := (updateRecord_only _ _ s).mono (by decide)
      have hx : OnlyChanges [.store, .peers] s (refusedRecord h r s) := by
        by_cases e : raisesStreak r = true
        · rw [hraise e]
          exact hu.trans h5
        · rw [hkeep e]
          exact hu
      exact hx.trans ((handoffNote_only _ _ _ _).mono (by decide))
  · rw [hr, takeRefuse, if_neg (by simp [hm])]
    rfl

/-! ## TAKEN -/

/-- The record of a pack ID marked DISPUTED: the mark, DISPUTE raised, and nothing else but the feed permit. -/
theorem markDisputed_is (id : PackId) (s : State) :
    StoreIs { s.store with
        records := recordsWith id (fun x =>
          { x with data := { x.data with marks := { x.data.marks with disputed := true } } }) s } (markDisputed id s)
      ∧ (markDisputed id s).port = (raise .dispute s).port
      ∧ OnlyChanges [.store, .port, .atm] s (markDisputed id s) := by
  refine ⟨?_, ?_, ?_⟩
  · refine storeIs_congr (updateRecord_is id _ s) ?_ ?_ ?_ ?_ ?_ <;> unfold markDisputed <;> dsimp only <;> split <;>
      simp [dropFeed_is, feedDropped_state]
  · unfold markDisputed
    dsimp only
    split
    · exact raise_port_congr _ (by simp)
    · exact raise_port_congr _ (by simp)
  · intro b hb
    unfold markDisputed
    dsimp only
    split <;> cases b <;> simp at hb <;> simp [sameBlock]

/-- Settles O30, by what the pack ID finds. -/
theorem takenReleasesRecord : Obligations.TakenReleasesRecord := by
  intro f s hs ha hok hn hd had
  have he : exec (.takenReceived f) s = .next (takeTaken f s) := next_admitted hs ha hok hn hd had _
  rw [he]
  refine ⟨fun r hf hr => ?_, fun r hf hr => ?_, fun hf => ?_⟩
  · simp only [takeTaken, hf, if_pos hr]
    refine ⟨countReleased (dropRecord f.head.packId s), rfl, ?_, ?_, ?_⟩
    · exact storeIs_congr (s := dropRecord f.head.packId s) (putRecords_is ..) rfl rfl rfl rfl rfl
    · simp [countReleased]
    · intro b hb
      cases b <;> simp at hb <;> simp [sameBlock]
  · simp only [takeTaken, hf, if_neg hr]
    obtain ⟨h1, h2, h3⟩ := markDisputed_is f.head.packId s
    have hc : (markDisputed f.head.packId s).cfg = s.cfg := h3 .cfg (by decide)
    have hl : (markDisputed f.head.packId s).link = s.link := h3 .link (by decide)
    have hx := storeIs_congr (t := placeCancel f.head.station f.head.packId f.head.offerNumber .disputed
      (markDisputed f.head.packId s)) h1 (by simp) (by simp) (by simp [placeCancel]) (by simp) (by simp)
    refine ⟨_, rfl, storeIs_handoffNote hx _ _ _, ?_, ?_, ?_, ?_⟩
    · have hh : cancelTo (markDisputed f.head.packId s) = cancelTo s := cancelTo_cfg hc
      rw [placeCancel_eq, hh]
      exact placeHandoff_link _ hl
    · simpa using h2
    · simpa using markDisputed_atm hf
    · refine (h3.mono (by decide)).trans ?_
      intro b hb
      cases b <;> simp at hb <;> simp [sameBlock]
  · simp only [takeTaken, hf]
    rfl

/-! ## CANCEL -/

/-- A record put into a state, with the event that ADRIFT raises. -/
theorem recordInto_is (h : HandoffHead) (st : RecordState) (s : State) :
    StoreIs { s.store with
        records := recordsWith h.packId (fun x => { x with
          state := st, offerTimer := none, transitTimer := none }) s } (recordInto h st s)
      ∧ (recordInto h st s).port = (if st = .adrift then (raise .adrift s).port else s.port)
      ∧ OnlyChanges [.store, .port] s (recordInto h st s) := by
  have hu : StoreIs { s.store with
      records := recordsWith h.packId (fun x => { x with
        state := st, offerTimer := none, transitTimer := none }) s } (updateRecord h.packId (fun r => r.into st) s) := rfl
  unfold recordInto
  by_cases ha : st = .adrift
  · simp only [if_pos ha]
    refine ⟨?_, raise_port_congr _ (by simp), ?_⟩
    · exact storeIs_congr hu (by simp) (by simp) (by simp) (by simp) (by simp)
    · exact ((updateRecord_only _ _ s).mono (by decide)).trans ((raise_only _ _).mono (by decide))
  · simp only [if_neg ha]
    exact ⟨hu, by simp, (updateRecord_only _ _ s).mono (by decide)⟩

/-- A record or reservation that a CANCEL's reason acts on is found (R79). -/
theorem cancelAction_finds {f : CancelFrame} {s : State} (h : cancelAction f s ≠ none) :
    CancelFinds f.head f.reason s := by
  have rep : ∀ v, repeatedReservation f.head s = some v → ∃ v ∈ s.store.reservations,
      v.station = f.head.station ∧ v.packId = f.head.packId ∧ v.offerNumber = f.head.offerNumber :=
    fun v hv => ⟨v, List.mem_of_find?_eq_some hv, by simpa using List.find?_some hv⟩
  have found : ∀ st, st = .offered ∨ st = .inTransit → anyMatches f.head st s = true → ∃ r ∈ s.store.records,
      r.id = f.head.packId ∧ r.offerNumber = some f.head.offerNumber ∧ r.destination = some f.head.station
        ∧ (r.state = .offered ∨ r.state = .inTransit) := by
    intro st hst hm
    simp only [anyMatches, List.any_eq_true, matchesHead, decide_eq_true_eq] at hm
    obtain ⟨r, hr, h1, h2, h3, h4⟩ := hm
    exact ⟨r, hr, h1, h4, h3, h2 ▸ hst⟩
  have any : anyMatches f.head .offered s = true ∨ anyMatches f.head .inTransit s = true →
      ∃ r ∈ s.store.records, r.id = f.head.packId ∧ r.offerNumber = some f.head.offerNumber
        ∧ r.destination = some f.head.station ∧ (r.state = .offered ∨ r.state = .inTransit) :=
    fun x => x.elim (found _ (.inl rfl)) (found _ (.inr rfl))
  unfold cancelAction at h
  unfold CancelFinds
  cases hr : f.reason <;> simp only [hr] at h
  case abort =>
    obtain ⟨v, hv⟩ := Option.ne_none_iff_exists'.1 (show repeatedReservation f.head s ≠ none by simpa using h)
    exact .inl ⟨.inl rfl, rep v hv⟩
  case alarm =>
    refine .inr (.inl ⟨.inl rfl, any ?_⟩)
    by_contra x
    simp_all
  case lapsed =>
    refine .inr (.inl ⟨.inr (.inl rfl), any ?_⟩)
    by_contra x
    simp_all
  case disputed =>
    obtain ⟨r, hf⟩ := Option.ne_none_iff_exists'.1 (show findRecord f.head.packId s ≠ none by simpa using h)
    exact .inr (.inr ⟨rfl, r, List.mem_of_find?_eq_some hf, by simpa using List.find?_some hf⟩)
  case peerRestart =>
    cases hv : repeatedReservation f.head s with
    | some v => exact .inl ⟨.inr rfl, rep v hv⟩
    | none =>
      refine .inr (.inl ⟨.inr (.inr rfl), any ?_⟩)
      by_contra x
      simp_all

/-- Settles O31, by the reason of the frame. -/
theorem cancelTaken : Obligations.CancelTaken := by
  intro h s hs ha hok hn hd had
  have he : ∀ c, exec (.cancelReceived { head := h, reason := c }) s
      = .next (takeCancel { head := h, reason := c } s) := fun c => next_admitted hs ha hok hn hd had _
  refine ⟨fun v c hv hc => ?_, fun c st hc => ?_, fun r hf => ?_, fun c hc => ?_⟩
  · have hact : cancelAction { head := h, reason := c } s = some (dropReservation v s) := by
      rcases hc with rfl | rfl <;> simp [cancelAction, hv]
    have hm : v.station = h.station ∧ v.packId = h.packId ∧ v.offerNumber = h.offerNumber := by
      simpa using List.find?_some hv
    rw [he]
    simp only [takeCancel, hact]
    have hdrop : dropReservation v s = putReservations (s.store.reservations.eraseP (fun x =>
        decide (x.station = h.station ∧ x.packId = h.packId ∧ x.offerNumber = h.offerNumber))) s := by
      rw [dropReservation, hm.1, hm.2.1, hm.2.2]
    rw [hdrop]
    refine ⟨_, rfl, storeIs_handoffNote (putReservations_is _ s) _ _ _, ?_⟩
    exact (putReservations_only _ s).trans (handoffNote_only _ _ _ _)
  · have hact : cancelAction { head := h, reason := c } s = some (recordInto h st s) := by
      rcases hc with ⟨hc, h1, h2, rfl⟩ | ⟨rfl, h1, h2, rfl⟩ | ⟨hc, h1, h2, rfl⟩
      · rcases hc with rfl | rfl | ⟨rfl, hv⟩ <;> simp [cancelAction, *]
      · simp [cancelAction, *]
      · rcases hc with rfl | ⟨rfl, hv⟩ <;> simp [cancelAction, *]
    obtain ⟨h1, h2, h3⟩ := recordInto_is h st s
    rw [he]
    simp only [takeCancel, hact]
    exact ⟨_, rfl, storeIs_handoffNote h1 _ _ _, by simpa using h2, h3.trans ((handoffNote_only _ _ _ _).mono (by decide))⟩
  · obtain ⟨h1, h2, h3⟩ := markDisputed_is h.packId s
    rw [he]
    simp only [takeCancel, cancelAction, hf, Option.map_some]
    exact ⟨_, rfl, storeIs_handoffNote h1 _ _ _, by simpa using h2, by simpa using markDisputed_atm hf,
      h3.trans ((handoffNote_only _ _ _ _).mono (by decide))⟩
  · have hact : cancelAction { head := h, reason := c } s = none := by
      by_contra x
      exact hc (cancelAction_finds x)
    rw [he]
    simp only [takeCancel, hact]
    rfl

end Sys2Proof.Machine
end

section
/-! PROOF. The timers of the line and of the Pack Store, obligations O20, O32, O33 and O44. -/

namespace Sys2Proof.Machine

open Sys2Proof

set_option Elab.async false

/-! ## Tables indexed from 1 -/

/-- An entry that the table has. -/
theorem at1_eq {α : Type} {k : Nat} (d : α) (v : Vector α k) {n : Nat} (h1 : 1 ≤ n) (h2 : n ≤ k) :
    at1 d v n = v[n - 1]'(by omega) := by
  unfold at1
  rw [if_neg (by omega), Vector.getElem?_eq_getElem (by omega), Option.getD_some]

/-! ## The own STATE -/

/-- An entry qualifies for the unheard list as R36 says. -/
theorem qualifying_is (s : State) : qualifying s = stationNumbers.filterMap (fun n =>
    if (s.peer n).clashFlag = true ∨ (s.peer n).admission = .refused .clash then some { reason := .clash, station := n }
    else if (s.peer n).admission = .admitted ∧ (s.peer n).step = .outOfStep then
      some { reason := if (s.peer n).newestCause = some .silence then .silent else .skipping, station := n }
    else if (s.peer n).admission ≠ .admitted ∧ (s.peer n).heard = true then
      some { reason := .unadmitted, station := n }
    else none) := by
  unfold qualifying
  refine List.filterMap_congr (fun n _ => ?_)
  unfold unheardReason
  by_cases hc : (s.peer n).clashFlag = true ∨ (s.peer n).admission = .refused .clash
  · simp only [if_pos hc, Option.map_some]
  · simp only [if_neg hc]
    by_cases had : (s.peer n).admission = .admitted
    · by_cases hs : (s.peer n).step = .outOfStep
      · simp only [had, hs, and_self, if_true]
        split <;> rfl
      · simp [had, hs]
    · by_cases hh : (s.peer n).heard = true <;> simp [had, hh]

/-- What the placing of a STATE leaves in the slot of an ACTIVE link (R13). -/
theorem withState_active (f : StateFrame) {l : Link} (h : l.state = .active) :
    (l.withState f).stateSlot = some { f with sequence := l.nextSequence }
      ∧ (l.withState f).nextSequence = (l.nextSequence + 1) % 16 := by
  unfold Link.withState
  rw [h]
  exact ⟨rfl, rfl⟩

/-- The examination for an offer leaves the STATE in its slot, the next sequence number and the quiet counts. -/
theorem examineOffer_keepsState (divert : Bool) (s : State) :
    (examineOffer divert s).link.stateSlot = s.link.stateSlot
      ∧ (examineOffer divert s).link.nextSequence = s.link.nextSequence
      ∧ (examineOffer divert s).store.quiet = s.store.quiet := by
  have place : ∀ (f : HandoffFrame) (u : State), (placeHandoff f u).link.stateSlot = u.link.stateSlot
      ∧ (placeHandoff f u).link.nextSequence = u.link.nextSequence := by
    intro f u
    unfold placeHandoff
    (repeat' split) <;> exact ⟨rfl, rfl⟩
  unfold examineOffer
  (repeat' split) <;> try exact ⟨rfl, rfl, rfl⟩
  refine ⟨(place _ _).1, (place _ _).2, ?_⟩
  simp [firstSend, placeOffer, updateRecord, putRecords, refreshStore]

/-! ## RUNNING -/

/-- The work of a period timer expiry in RUNNING: the own STATE placed, and the examination for an offer (R20, R63). -/
theorem runningPeriod_is (s : State) :
    (s.link.state = .active →
        (runningPeriod s).link.stateSlot = some { ownState s with sequence := s.link.nextSequence }
          ∧ (runningPeriod s).link.nextSequence = (s.link.nextSequence + 1) % 16)
      ∧ OfferExamined { s with link := s.link.withState (ownState s) } (runningPeriod s)
      ∧ (runningPeriod s).store.quiet = s.store.quiet
      ∧ OnlyChanges [.link, .store] s (runningPeriod s) := by
  have e : runningPeriod s = examineOffer (channelOut s 16) (s.withLink (s.link.withState (ownState s))) := by
    rw [runningPeriod, placeState_is]
  obtain ⟨h1, h2, h3⟩ := examineOffer_keepsState (channelOut s 16) (s.withLink (s.link.withState (ownState s)))
  rw [e]
  refine ⟨fun ha => ?_, examineOffer_is _, h3, fun b hb => ?_⟩
  · rw [h1, h2]
    exact withState_active _ ha
  · cases b <;> simp at hb <;> simp [sameBlock]

/-- Settles O20: each due step with nothing due before it. -/
theorem periodStepsDue : Obligations.PeriodStepsDue := by
  refine ⟨fun s hq hp hc => ?_, fun s hq hw hc => ?_, fun n s hq hn hs hc => ?_⟩
  · let u := s.withStart { s.start with phase := .running }
    have e : exec .enterRunning s = .next (runningPeriod u) := by
      show Host.Outcome.next (takeEnterRunning (dueCountdown s)) = _
      rw [dueCountdown_quiet hq, takeEnterRunning, if_pos ⟨hp, hc⟩]
    obtain ⟨h1, h2, -, h4⟩ := runningPeriod_is u
    refine ⟨_, e, h4 .start (by decide), fun ha => h1 ha, h2, ?_⟩
    have hu : OnlyChanges [.start] s u := fun b hb => by cases b <;> simp at hb <;> rfl
    exact (hu.mono (by decide)).trans (h4.mono (by decide))
  · show Host.Outcome.next (takeStartWindowClose (dueRunning s)) = _
    rw [dueRunning_quiet hq, takeStartWindowClose, if_pos ⟨hw, hc⟩]
    rfl
  · have e : exec (.refusalStreakQuiet n) s = .next (clearStreak n s) := by
      show Host.Outcome.next (takeStreakQuiet n (dueWindow s)) = _
      rw [dueWindow_quiet hq, takeStreakQuiet, if_pos ⟨hs, hc⟩]
    exact ⟨_, e, entryBecomes_setPeer hn _ s⟩

/-! ## The period timer -/

/-- The quiet count of a station after a period timer expiry (R67). -/
theorem advancePeriod_quiet (s : State) {n : Nat} (h : stationOk n = true) :
    at1 0 (advancePeriod s).store.quiet n = at1 0 s.store.quiet n + (if 0 < (s.peer n).streak then 1 else 0) := by
  simp only [stationOk, decide_eq_true_eq] at h
  have he : s.peer n = s.peers.entries[n - 1]'(by omega) := at1_eq _ _ h.1 h.2
  rw [at1_eq _ _ h.1 h.2, at1_eq _ _ h.1 h.2, he]
  show (Vector.zipWith _ s.peers.entries s.store.quiet)[n - 1]'(by omega) = _
  rw [Vector.getElem_zipWith]
  split <;> rfl

/-- A placed JOIN stands in the slot of an ACTIVE link. -/
theorem placeJoin_slot (f : JoinFrame) {s : State} (h : s.link.state = .active) :
    (placeJoin f s).link.joinSlot = some f := by
  rw [placeJoin_is]
  simp [Link.withJoin, h]

/-- Settles O32: the counts, then the JOIN of LISTENING or the work of RUNNING. -/
theorem periodTimerCounts : Obligations.PeriodTimerCounts := by
  refine ⟨fun s q hq => ?_, fun s h ht => ?_⟩
  · subst hq
    rw [← qualifying_is]
    simp only [ownState, decide_eq_true_eq]
    rfl
  · let u := advancePeriod s
    have hu : OnlyChanges [.peers, .store] s u := fun b hb => by cases b <;> simp at hb <;> rfl
    have e : exec .periodTimerExpiry s = .next (if s.start.phase = .running then runningPeriod u
        else if u.peers.periodCount ≤ 2 then placeJoin (ownJoin u) u else u) :=
      (next_whenActive h _).trans (by rw [if_pos ht])
    by_cases hp : s.start.phase = .running
    · obtain ⟨h1, h2, h3, h4⟩ := runningPeriod_is u
      rw [if_pos hp] at e
      have hpeers : (runningPeriod u).peers = u.peers := h4 .peers (by decide)
      refine ⟨_, e, hpeers, fun n hn => by rw [h3]; exact advancePeriod_quiet s hn, fun hl => ?_, fun _ ha => h1 ha,
        fun _ => ?_, (hu.mono (by decide)).trans (h4.mono (by decide))⟩
      · exact absurd (hp.symm.trans hl) (by decide)
      · rw [hpeers, h3]
        exact h2
    · rw [if_neg hp] at e
      have hcount : s.start.phase = .listening → s.peers.periodCount < 3 := by
        intro hl
        have hd := quietWindow_of_noneDue h.2
        simp only [quietWindow, quietRunning, Bool.and_eq_true, Bool.not_eq_true', decide_eq_false_iff_not] at hd
        exact Nat.lt_of_not_le (fun x => hd.1.2 ⟨hl, x⟩)
      have hc : u.peers.periodCount = min (s.peers.periodCount + 1) 255 := rfl
      by_cases h2 : u.peers.periodCount ≤ 2
      · rw [if_pos h2] at e
        refine ⟨_, e, by simp; rfl, fun n hn => by simpa using advancePeriod_quiet s hn, fun hl ha => ?_,
          fun hr => absurd hr hp, fun hr => absurd hr hp, ?_⟩
        · exact ⟨by simp; rfl, fun _ => placeJoin_slot _ ha, fun hx => by omega⟩
        · refine (hu.mono (by decide)).trans (fun b hb => ?_)
          cases b <;> simp at hb <;> simp [sameBlock]
      · rw [if_neg h2] at e
        exact ⟨_, e, rfl, fun n hn => advancePeriod_quiet s hn, fun hl ha => ⟨rfl, fun hx => by omega, fun _ => rfl⟩,
          fun hr => absurd hr hp, fun hr => absurd hr hp, hu.mono (by decide)⟩

/-! ## Silence -/

/-- Settles O33, by the admission of the silent station. -/
theorem silenceRecordsMiss : Obligations.SilenceRecordsMiss := by
  intro n s h hn ht
  have hs : (s.peer n).silenceTimer.isSome = true := Option.isSome_iff_ne_none.2 ht
  refine ⟨fun had => ?_, fun had => ?_⟩
  · let u := s.setPeer n { (s.peer n).record .miss .silence with silenceTimer := some 2 }
    have e : exec (.silenceTimerExpiry n) s = .next (peerHandover n u) :=
      (next_whenActive h _).trans (by simp only [if_pos hs, if_pos had]; rfl)
    have hp : (peerHandover n u).peers = u.peers := (peerHandover_frame n u).1
    refine ⟨_, e, ?_, ?_, fun m hm => ?_, ?_, fun b hb => ?_⟩
    · rw [peer_of_peers hp]
      exact (peer_setPeer_same hn _).trans rfl
    · rw [hp]
      exact peerHandover_is n u
    · rw [peer_of_peers hp]
      exact peer_setPeer_other _ hm _
    · rw [hp]
      exact setPeer_peers ..
    · cases b <;> simp at hb <;> simp [sameBlock, u, State.setPeer]
  · have e : exec (.silenceTimerExpiry n) s
        = .next (s.setPeer n { s.peer n with heard := false, silenceTimer := none }) :=
      (next_whenActive h _).trans (by simp only [if_pos hs, if_neg had])
    exact ⟨_, e, entryBecomes_setPeer hn _ s⟩

/-! ## The timers of the Pack Store -/

/-- A record found by its pack ID has it. -/
theorem findRecord_id {id : PackId} {r : PackRecord} {s : State} (h : findRecord id s = some r) : r.id = id := by
  simpa using List.find?_some h

/-- Settles O44, timer by timer. -/
theorem storeTimersExpire : Obligations.StoreTimersExpire := by
  intro id s h
  refine ⟨fun r n hf ho ht hd hn => ⟨fun hc => ?_, fun hc => ?_⟩, fun r hf hb => ?_, fun r hf ho ht => ?_,
    fun v hf ht => ?_⟩
  · have hid := findRecord_id hf
    subst hid
    let u := updateRecord r.id (fun x => { x with sendCount := x.sendCount + 1, offerTimer := some 4 }) s
    have e : exec (.offerTimerExpiry r.id) s = .next (placeOffer r u) :=
      (next_whenActive h _).trans (by simp only [hf, if_pos (And.intro ho ht), offerExpiry, if_pos hc]; rfl)
    have hu : StoreIs _ u := updateRecord_is r.id _ s
    refine ⟨_, e, storeIs_congr hu (by simp) (by simp) (by simp [placeOffer]) (by simp) (by simp), ?_, ?_⟩
    · rw [placeOffer, hd]
      exact placeHandoff_link _ (by simp [u])
    · exact ((updateRecord_only _ _ s).mono (by decide)).trans ((placeHandoff_only _ u).mono (by decide))
  · have hid := findRecord_id hf
    subst hid
    let u := updateRecord r.id (fun x => x.into .ready) s
    have e : exec (.offerTimerExpiry r.id) s =
        .next (raise .noReply (handoffNote r.id n .noReply (raiseStreak n u))) :=
      (next_whenActive h _).trans (by
        simp only [hf, if_pos (And.intro ho ht), offerExpiry, if_neg (Nat.not_lt.2 hc), hd, Option.getD_some]
        rfl)
    have hu : StoreIs { s.store with records := recordsWith r.id (·.into .ready) s } u := updateRecord_is r.id _ s
    obtain ⟨h1, h2, -, -, h5⟩ := raiseStreak_is hn u
    have hq : StoreIs { s.store with
        records := recordsWith r.id (·.into .ready) s, quiet := set1 s.store.quiet n 0 } (raiseStreak n u) :=
      storeIs_congr (storeIs_quiet (q := set1 s.store.quiet n 0) hu rfl) rfl rfl rfl rfl rfl
    refine ⟨_, e, ?_, ?_, fun m hm => ?_, raise_port_congr _ (by simp [u]), fun b hb => ?_⟩
    · exact storeIs_congr (storeIs_handoffNote hq r.id n .noReply) (by simp) (by simp) (by simp) (by simp) (by simp)
    · exact (peer_of_peers (by simp) n).trans h1
    · exact (peer_of_peers (by simp) m).trans (h2 m hm).1
    · cases b <;> simp at hb <;> simp [sameBlock, u]
  · have e : exec (.backOffExpiry id) s = .next (updateRecord id (fun x => { x with backOff := none }) s) :=
      (next_whenActive h _).trans (by simp only [hf, if_pos hb])
    exact ⟨_, e, updateRecord_is id _ s, updateRecord_only id _ s⟩
  · have e : exec (.transitTimerExpiry id) s = .next (handoffNote id (r.destination.getD 0) .lapsed
        (raise .adrift (updateRecord id (fun x => x.into .adrift) s))) :=
      (next_whenActive h _).trans (by simp only [hf, if_pos (And.intro ho ht)])
    refine ⟨_, e, storeIs_handoffNote (storeIs_congr (updateRecord_is id _ s) ?_ ?_ ?_ ?_ ?_) _ _ _, ?_, fun b hb => ?_⟩
    · simp
    · simp
    · simp
    · simp
    · simp
    · exact raise_port_congr _ (by simp)
    · cases b <;> simp at hb <;> simp [sameBlock]
  · have hid : v.packId = id := by simpa using List.find?_some hf
    subst hid
    have e : exec (.grantHoldExpiry v.packId) s = .next (handoffNote v.packId v.station .lapsed
        (placeCancel v.station v.packId v.offerNumber .lapsed (dropReservation v s))) :=
      (next_whenActive h _).trans (by simp only [hf, if_pos ht])
    have hu : StoreIs _ (dropReservation v s) := putReservations_is _ s
    have hx := storeIs_congr (t := placeCancel v.station v.packId v.offerNumber .lapsed (dropReservation v s)) hu
      (by simp) (by simp) (by simp [placeCancel]) (by simp) (by simp)
    refine ⟨_, e, storeIs_handoffNote hx _ _ _, placeHandoff_link _ (by simp), fun b hb => ?_⟩
    cases b <;> simp at hb <;> simp [sameBlock]

end Sys2Proof.Machine
end

section
/-! PROOF. The Discharge Engine's steps and the Residual Unit's arithmetic, obligations O36 to O41 and O43. -/

namespace Sys2Proof.Machine

open Sys2Proof

set_option Elab.async false

/-! ## The ramp step -/

/-- Settles O36, by where the present step stands. -/
theorem rampMovesOneStep : Obligations.RampMovesOneStep := by
  intro s w hq hst hc hw
  have hst' : s.engine.state = .ramp ∨ s.engine.state = .run ∨ s.engine.state = .unload := by simpa [stepping] using hst
  have hww : wantedStep s.engine = w := hw.symm
  have e : exec .rampStep s = .next (takeRampStep s) := by
    show Host.Outcome.next (takeRampStep (dueLoss s)) = _
    rw [dueLoss_quiet hq]
  rw [e]
  unfold takeRampStep
  simp only [if_pos (And.intro hst' hc), hww]
  refine ⟨fun hp => ?_, fun k hk => ?_⟩
  · have hstep : (if s.engine.present < w then s.engine.present + 1
        else if w < s.engine.present then s.engine.present - 1 else s.engine.present) = s.engine.present := by
      rw [if_neg (by omega), if_neg (by omega)]
    rw [hstep, if_pos rfl]
    rfl
  · have hstep : (if s.engine.present < w then s.engine.present + 1
        else if w < s.engine.present then s.engine.present - 1 else s.engine.present) = k := by
      rcases hk with ⟨h1, h2⟩ | ⟨h1, h2⟩
      · rw [if_pos h1, h2]
      · rw [if_neg (by omega), if_pos h1]
        omega
    rw [hstep, if_neg (by omega)]
    rfl

/-! ## The faults -/

/-- An order to unload in CONNECT, RAMP, RUN or REST begins the unload. -/
theorem ordered_loaded {e : Engine} (p : UnloadPurpose) (h : e.state ∈ [.connect, .ramp, .run, .rest]) :
    e.ordered p = e.unloading p := if_pos h

/-- Settles O37, fault by fault. -/
theorem engineFaultsTaken : Obligations.EngineFaultsTaken := by
  intro s
  refine ⟨fun hl => ?_, fun hq hs ht => ?_, fun hq hs hc => ?_, fun hq hs hc => ?_, fun r r' c c' => ?_⟩
  · have e : exec .measurementLoss s = .next (s.withEngine
        ({ s.engine with lossDue := false }.ordered (.fault .measurementLost))) := by
      show Host.Outcome.next (takeMeasurementLoss s) = _
      rw [takeMeasurementLoss, if_pos hl, orderUnload_is]
      rfl
    rw [e]
    refine ⟨fun hs => ?_, fun p hs hp => ?_, fun hs => ?_⟩
    · rw [ordered_loaded _ (by rcases hs with hs | hs | hs | hs <;> simp [hs])]
      rfl
    · unfold Engine.ordered
      rw [if_neg (by simp [hs]), if_pos hs, hp]
      cases p <;> rfl
    · unfold Engine.ordered
      rw [if_neg (by rcases hs with hs | hs | hs | hs <;> simp [hs]),
        if_neg (by rcases hs with hs | hs | hs | hs <;> simp [hs])]
      rfl
  · show Host.Outcome.next (takeSettleTimeout (dueLoadStuck s)) = _
    rw [dueLoadStuck_quiet hq, takeSettleTimeout, if_pos ⟨hs, ht⟩]
    rfl
  · show Host.Outcome.next (takeRestCurrentFault (dueUnload s)) = _
    rw [dueUnload_quiet hq, takeRestCurrentFault, if_pos ⟨hs, hc⟩]
    rfl
  · have e : exec .loadStuck s = .next (takeLoadStuck s) := by
      show Host.Outcome.next (takeLoadStuck (dueRestCurrent s)) = _
      rw [dueRestCurrent_quiet hq]
    rw [e, takeLoadStuck, if_pos ⟨hs, hc⟩]
    refine ⟨_, rfl, ?_, raise_port_congr _ rfl, fun b hb => ?_⟩
    · rw [(raise_frame _ _).2.2.2.2.1]
      rfl
    · cases b <;> simp at hb <;> simp [sameBlock]
  · exact ⟨rfl, rfl, rfl, rfl, rfl, rfl⟩

/-! ## The end of an unload -/

/-- A record handed back by a BAY: READY under a forbidding mark, which raises RECORD READY, else HELD (R61). -/
theorem holdRecord_bay {id : PackId} {r : PackRecord} {s : State} (hr : s.cfg.role = .bay)
    (hf : findRecord id s = some r) :
    StoreIs { s.store with
        records := recordsWith id (fun x => x.into (if marksForbid r.data.marks then .ready else .held)) s }
        (holdRecord id s)
      ∧ (holdRecord id s).port = (if marksForbid r.data.marks then raise .recordReady s else s).port
      ∧ OnlyChanges [.store, .port] s (holdRecord id s) := by
  unfold holdRecord
  simp only [hf]
  by_cases hm : marksForbid r.data.marks = true
  · simp only [hr, hm, and_self, if_true]
    exact ⟨storeIs_congr (updateRecord_is id _ s) (by simp) (by simp) (by simp) (by simp) (by simp),
      raise_port_congr _ (by simp), ((updateRecord_only _ _ s).mono (by decide)).trans ((raise_only _ _).mono (by decide))⟩
  · simp only [if_neg hm, if_neg (fun x : s.cfg.role = .bay ∧ marksForbid r.data.marks = true => hm x.2)]
    exact ⟨updateRecord_is id _ s, by simp, (updateRecord_only _ _ s).mono (by decide)⟩

/-- A hand-back at a BAY: the record, the engine IDLE with nothing bound, and what of the port follows (R103, R111). -/
theorem handBack_is {id : PackId} {r : PackRecord} {s : State} (hb : s.engine.bound = some id) (hr : s.cfg.role = .bay)
    (hf : findRecord id s = some r) :
    (handBack s).engine = { s.engine.opened .idle with bound := none, faultCause := none }
      ∧ StoreIs { s.store with
          records := recordsWith id (fun x => x.into (if marksForbid r.data.marks then .ready else .held)) s }
          (handBack s)
      ∧ (handBack s).port = (if marksForbid r.data.marks then raise .recordReady s else s).port
      ∧ OnlyChanges [.engine, .store, .port] s (handBack s) := by
  obtain ⟨h1, h2, h3⟩ := holdRecord_bay hr hf
  have e : handBack s = enterIdle (holdRecord id s) := by rw [handBack, hb]
  rw [e]
  refine ⟨?_, storeIs_congr h1 rfl rfl rfl rfl rfl, h2, (h3.mono (by decide)).trans fun b hb => ?_⟩
  · have he : (holdRecord id s).engine = s.engine := h3 .engine (by decide)
    have hi : (enterIdle (holdRecord id s)).engine
        = { (holdRecord id s).engine.opened .idle with bound := none, faultCause := none } := rfl
    rw [hi, he]
  · cases b <;> simp at hb <;> rfl

/-- Settles O38, by the purpose. -/
theorem unloadEndsByPurpose : Obligations.UnloadEndsByPurpose := by
  intro s hq hs hc
  have e : exec .unloadComplete s = .next (takeUnloadComplete s) := by
    show Host.Outcome.next (takeUnloadComplete (dueRamp s)) = _
    rw [dueRamp_quiet hq]
  rw [e, takeUnloadComplete, if_pos ⟨hs, hc⟩]
  refine ⟨fun hp => ?_, fun r id rec hp hb hf hr => ?_, fun c id hp hb => ?_⟩
  · rw [hp]
    rfl
  · rw [hp]
    let u := s.withEngine { s.engine with endNote := some { packId := id, outcome := .handedBack r } }
    have hu : endNote (.handedBack r) s = u := by rw [endNote, hb]; rfl
    simp only [hu]
    obtain ⟨h1, h2, h3, h4⟩ := handBack_is (s := u) (id := id) (r := rec) hb hr hf
    refine ⟨_, rfl, ?_, storeIs_congr h2 ?_ ?_ ?_ ?_ ?_, ?_, ?_⟩
    · rw [(raise_frame _ _).2.2.2.2.1, h1]
      rfl
    · simp
    · simp
    · simp
    · simp
    · simp
    · refine raise_port_congr _ (h3.trans ?_)
      split
      · exact raise_port_congr _ rfl
      · rfl
    · have hu : OnlyChanges [.engine, .store, .port] s u := fun b hb => by cases b <;> simp at hb <;> rfl
      exact (hu.trans h4).trans ((raise_only _ _).mono (by decide))
  · rw [hp]
    obtain ⟨h1, h2, h3⟩ := enterFault_is hb c
    refine ⟨_, rfl, h1, h2, h3, fun b hb => ?_⟩
    cases b <;> simp at hb <;> simp [sameBlock]

/-- The end note replaced with the bound record's outcome (R112). -/
theorem endNote_is {s : State} {id : PackId} (h : s.engine.bound = some id) (o : EndOutcome) :
    endNote o s = { s with engine := { s.engine with endNote := some { packId := id, outcome := o } } } := by
  rw [endNote, h]
  rfl

/-! ## The contactor check -/

/-- The bound record, where its pack ID is held. -/
theorem boundRecord_is {id : PackId} {r : PackRecord} {s : State} (hb : s.engine.bound = some id)
    (hf : findRecord id s = some r) : boundRecord s = some r := by
  simp [boundRecord, hb, hf]

/-- The engine as it enters RAMP with a bound record (R93 to R96). -/
def Engine.ramping (s : State) (p : PackData) (e : Engine) : Engine :=
  { e with
    state := .ramp
    contactor := true
    rampCount := 0
    settleRun := 0
    iCmd := commandedCurrent s p
    target := targetStep s (commandedCurrent s p)
    settleTimer := some s.cfg.settleTimeout }

theorem enterRamp_is {r : PackRecord} {s : State} (h : boundRecord s = some r) :
    enterRamp s = { s with engine := s.engine.ramping s r.data } := by
  let u := s.withEngine { s.engine.enter .ramp with rampCount := 0, settleRun := 0 }
  have hu : boundRecord u = some r := h
  have he := recomputeTarget_engine hu
  have hs : recomputeTarget u = u.withEngine (recomputeTarget u).engine := by
    unfold recomputeTarget
    simp only [hu]
    split <;> rfl
  show (recomputeTarget u).withEngine { (recomputeTarget u).engine with settleTimer := some s.cfg.settleTimeout } = _
  rw [hs, he]
  rfl

/-- Two changes of one record, one after the other, are one. -/
theorem storeIs_changedTwice {u t : State} {id : PackId} (f g : PackRecord → PackRecord) (hf : ∀ x, (f x).id = x.id)
    (h : StoreIs { (updateRecord id f u).store with records := recordsWith id g (updateRecord id f u) } t) :
    StoreIs { u.store with records := recordsWith id (fun x => g (f x)) u } t := by
  rw [show recordsWith id g (updateRecord id f u) = _ from recordsWith_twice id f g hf u] at h
  exact h

/-- Entry into FAULT after a change of the bound record's data. -/
theorem enterFault_changed {s : State} {id : PackId} (h : s.engine.bound = some id) (c : FaultCause)
    (f : PackData → PackData) :
    (enterFault c (updateBound f s)).engine = { s.engine.opened .fault with
        faultCause := some c
        checkTimer := none
        endNote := some { packId := id, outcome := .faulted c } }
      ∧ StoreIs { s.store with
          records := recordsWith id (·.withData (fun d => addHistory s.cfg.station .faulted (f d))) s }
          (enterFault c (updateBound f s))
      ∧ (enterFault c (updateBound f s)).port = (raise .dischargeFault s).port
      ∧ OnlyChanges [.engine, .store, .port] s (enterFault c (updateBound f s)) := by
  rw [updateBound_is h]
  obtain ⟨h1, h2, h3⟩ := enterFault_is (s := updateRecord id (·.withData f) s) h c
  refine ⟨h1, storeIs_changedTwice (·.withData f) (·.withData (addHistory s.cfg.station .faulted)) (fun _ => rfl) h2,
    h3.trans (raise_port_congr _ (by simp)), fun b hb => ?_⟩
  · cases b <;> simp at hb <;> simp [sameBlock]

/-- A record found after the records were mapped by a function that keeps the pack IDs. -/
theorem findRecord_map {s t : State} (g : PackRecord → PackRecord) (hg : ∀ x, (g x).id = x.id)
    (h : t.store.records = s.store.records.map g) (id : PackId) : findRecord id t = (findRecord id s).map g := by
  unfold findRecord
  rw [h, List.find?_map]
  congr 2
  funext x
  simp [hg]

/-- A record as a rise to an ALARM level leaves it (R80). -/
def PackRecord.alarmed (r : PackRecord) : PackRecord :=
  if r.state = .offered then r.stopped .ready else if r.state = .inTransit then r.stopped .halted else r

theorem alarmed_keeps (r : PackRecord) : r.alarmed.id = r.id ∧ r.alarmed.data = r.data := by
  unfold PackRecord.alarmed
  (repeat' split) <;> exact ⟨rfl, rfl⟩

/-- A change of the own level keeps the data of every record held. -/
theorem findRecord_level {l : ZoneLevel} {flag : Bool} {cause : Option ZoneCause} {o : Origin} {s t : State}
    (h : LevelChanged l flag cause o s t) {id : PackId} {r : PackRecord} (hr : findRecord id s = some r) :
    ∃ x, findRecord id t = some x ∧ x.data = r.data := by
  have hs := h.store
  by_cases hrise : risesToAlarm s.zone.level l
  · rw [if_pos hrise] at hs
    have e := findRecord_map PackRecord.alarmed (fun x => (alarmed_keeps x).1)
      (show t.store.records = s.store.records.map PackRecord.alarmed by rw [hs]; rfl) id
    rw [hr] at e
    exact ⟨_, e, (alarmed_keeps r).2⟩
  · rw [if_neg hrise] at hs
    have e : t.store.records = s.store.records := by rw [hs]
    exact ⟨r, by rw [findRecord, e]; exact hr, rfl⟩

/-- ISOLATION FAILED of a bound record: the mark and the latch, the rise by ELECTRICAL, and the end note (R110). -/
theorem isolationFailed_is {s : State} {id : PackId} (hb : s.engine.bound = some id) (hst : s.engine.state = .isolate) :
    ∃ u v, u.zone = { s.zone with isolationLatch := true } ∧ u.engine = s.engine
      ∧ StoreIs { s.store with
          records := recordsWith id (·.withData (fun d => addHistory s.cfg.station .faulted
            { d with marks := { d.marks with isolation := true } })) s } u
      ∧ OnlyChanges [.zone, .store] s u
      ∧ (levelRank s.zone.level < 3 → LevelChanged (confirmedLevel s) false (some .electrical) .own u v)
      ∧ (3 ≤ levelRank s.zone.level → v = u)
      ∧ v.engine = s.engine
      ∧ isolationFailed s = raise .dischargeFault { v with
          engine := { v.engine with endNote := some { packId := id, outcome := .isolationFailed } } } := by
  let w := updateRecord id (·.withData (fun d => addHistory s.cfg.station .faulted
    { d with marks := { d.marks with isolation := true } })) s
  let u := w.withZone { s.zone with isolationLatch := true }
  let v := confirmRise .electrical .own u
  have hlow : levelRank s.zone.level < 3 → LevelChanged (confirmedLevel s) false (some .electrical) .own u v :=
    fun h => confirmRise_is (s := u) .electrical .own h
  have hhigh : 3 ≤ levelRank s.zone.level → v = u := fun h => if_pos h
  have hv : v.engine = s.engine := by
    by_cases h : levelRank s.zone.level < 3
    · rw [(hlow h).engine]
      have hu : u.engine = s.engine := by simp [u, w]
      have h2 : 2 ≤ levelRank (confirmedLevel s) := by unfold confirmedLevel; split <;> decide
      split
      · rw [hu, Engine.ordered, if_neg (by simp [hst]), if_neg (by simp [hst])]
      · exact hu
    · rw [hhigh (by omega)]
      simp [u, w]
  refine ⟨u, v, rfl, by simp [u, w], ?_, fun b hb => ?_, hlow, hhigh, hv, ?_⟩
  · exact storeIs_congr (updateRecord_is id _ s) rfl rfl rfl rfl rfl
  · cases b <;> simp at hb <;> simp [sameBlock, u, w]
  · have hw : updateBound (fun p => addHistory s.cfg.station .faulted
        { p with marks := { p.marks with isolation := true } }) s = w := updateBound_is hb _
    show raise .dischargeFault (endNote .isolationFailed (isolationAlarm _)) = _
    rw [hw]
    show raise .dischargeFault (endNote .isolationFailed v) = _
    rw [endNote_is (hv ▸ hb)]

/-- Settles O39, by the state of the engine and the order of the checks. -/
theorem contactorChecked : Obligations.ContactorChecked := by
  intro s pid r m hq ht hb hf hm
  let u := s.withEngine { s.engine with checkTimer := none }
  have hbu : u.engine.bound = some pid := hb
  have hru : boundRecord u = some r := boundRecord_is hb hf
  have hex : exec .contactorCheckExpiry s = .next (takeContactorCheck s) := by
    show Host.Outcome.next (takeContactorCheck (dueRest s)) = _
    rw [dueRest_quiet hq]
  have hcon : s.engine.state = .connect → exec .contactorCheckExpiry s = .next (connectCheck m r u) := by
    intro hc
    rw [hex, takeContactorCheck, if_pos ht]
    dsimp only
    rw [if_pos hc]
    show Host.Outcome.next (match boundRecord u, u.engine.lastValid with
      | some r, some m => connectCheck m r u
      | _, _ => u) = _
    rw [hru, show u.engine.lastValid = some m from hm]
  have hcheck : connectCheck m r u =
      if s.cfg.zeroThreshold ≤ m.i.natAbs then enterFault .loadStuck u
      else if m.v < 0 then
        enterFault .polarity (updateBound (fun p => { p with marks := { p.marks with polarity := true } }) u)
      else if cellVoltage m.v r.data.cells < (curveOf s r.data.chemistry).cellMin
          ∨ (curveOf s r.data.chemistry).cellMax < cellVoltage m.v r.data.cells then
        enterFault .voltage (updateBound (fun p => { p with marks := { p.marks with voltage := true } }) u)
      else enterRamp u := rfl
  have hiso : s.engine.state = .isolate → exec .contactorCheckExpiry s = .next
      (if s.engine.status ≠ .lost ∧ m.i.natAbs < s.cfg.zeroThreshold then enterFault .loadStuck u
       else isolationFailed u) := by
    intro hc
    have hi : isolateCheck u = if s.engine.status ≠ .lost ∧ m.i.natAbs < s.cfg.zeroThreshold then enterFault .loadStuck u
        else isolationFailed u := by
      rw [isolateCheck, show u.engine.lastValid = some m from hm]
      rfl
    rw [hex, ← hi, takeContactorCheck, if_pos ht]
    dsimp only
    rw [if_neg (by simp [hc]), if_pos hc]
    rfl
  have hfault : ∀ (c : FaultCause) (f : PackData → PackData),
      (enterFault c (updateBound f u)).engine = { s.engine.opened .fault with
        faultCause := some c
        checkTimer := none
        endNote := some { packId := pid, outcome := .faulted c } }
      ∧ StoreIs { s.store with
        records := recordsWith pid (·.withData (fun d => addHistory s.cfg.station .faulted (f d))) s }
        (enterFault c (updateBound f u))
      ∧ (enterFault c (updateBound f u)).port = (raise .dischargeFault s).port
      ∧ OnlyChanges [.engine, .store, .port] s (enterFault c (updateBound f u)) := by
    intro c f
    obtain ⟨h1, h2, h3, h4⟩ := enterFault_changed hbu c f
    refine ⟨h1, h2, h3, ?_⟩
    have hu : OnlyChanges [.engine, .store, .port] s u := fun b hb => by cases b <;> simp at hb <;> rfl
    exact hu.trans h4
  refine ⟨fun c mark hc => ?_, fun hc hi hv hlo hhi => ?_, fun hc hi => ?_⟩
  · obtain ⟨g1, g2, g3⟩ := enterFault_is hbu c
    have hu : OnlyChanges [.engine, .store, .port] s (enterFault c u) :=
      fun b hb => by cases b <;> simp at hb <;> simp [sameBlock, u]
    rcases hc with ⟨hc, ⟨hi, rfl, rfl⟩ | ⟨hi, hv, rfl, rfl⟩ | ⟨hi, hv, rfl, hr, rfl⟩⟩ | ⟨hc, hst, hi, rfl, rfl⟩
    · rw [hcon hc, hcheck, if_pos hi]
      exact ⟨_, rfl, g1, g2, g3, hu⟩
    · rw [hcon hc, hcheck, if_neg (by omega), if_pos hv]
      exact ⟨_, rfl, hfault .polarity _⟩
    · rw [hcon hc, hcheck, if_neg (by omega), if_neg (by omega), if_pos hr]
      exact ⟨_, rfl, hfault .voltage _⟩
    · rw [hiso hc, if_pos ⟨hst, hi⟩]
      exact ⟨_, rfl, g1, g2, g3, hu⟩
  · rw [hcon hc, hcheck, if_neg (by omega), if_neg (by omega), if_neg, enterRamp_is hru]
    · rfl
    · rintro (x | x)
      · exact absurd x (Nat.not_lt.2 hlo)
      · exact absurd x (Nat.not_lt.2 hhi)
  · have hneg : ¬(s.engine.status ≠ .lost ∧ m.i.natAbs < s.cfg.zeroThreshold) := by
      rintro ⟨h1, h2⟩
      rcases hi with hi | hi
      · exact h1 hi
      · omega
    rw [hiso hc, if_neg hneg]
    obtain ⟨w, v, h1, h2, h3, h4, h5, h6, h7, h8⟩ := isolationFailed_is hbu hc
    have hzone : (isolationFailed u).zone = v.zone := by simp [h8]
    have h3c : 3 ≤ levelRank (confirmedLevel u) := by unfold confirmedLevel; split <;> decide
    have h2c : 2 ≤ levelRank (confirmedLevel u) := by omega
    have hrel : confirmedLevel u ≠ .released := by unfold confirmedLevel; split <;> decide
    have hw : findRecord pid w = some (r.withData (fun d => addHistory s.cfg.station .faulted
        { d with marks := { d.marks with isolation := true } })) := by
      have e := findRecord_update hf (·.withData (fun d => addHistory s.cfg.station .faulted
        { d with marks := { d.marks with isolation := true } })) (fun _ => rfl)
      have hr : w.store.records = (updateRecord pid (·.withData (fun d => addHistory s.cfg.station .faulted
        { d with marks := { d.marks with isolation := true } })) s).store.records := by rw [h3]; rfl
      rw [findRecord, hr]
      exact e
    refine ⟨_, rfl, ?_, ?_, ?_, fun hlow => ?_, fun hhigh => ?_, ?_, ⟨w, v, h1, h2, h3, ?_, h5, h6, h8⟩, ?_⟩
    · rw [h8, (raise_frame _ _).2.2.2.2.1]
      dsimp only
      rw [h7]
      rfl
    · rw [hzone]
      rcases Nat.lt_or_ge (levelRank s.zone.level) 3 with hlow | hhigh
      · rw [((h5 hlow).rise h2c hrel).2.2.2.2.2.2.1, h1]
      · rw [h6 hhigh, h1]
    · rw [hzone]
      rcases Nat.lt_or_ge (levelRank s.zone.level) 3 with hlow | hhigh
      · rw [((h5 hlow).rise h2c hrel).1]
        exact h3c
      · rw [h6 hhigh, h1]
        exact hhigh
    · rw [hzone]
      obtain ⟨hl, hcause, hflag, -⟩ := (h5 hlow).rise h2c hrel
      exact ⟨hcause, hflag, hl⟩
    · rw [hzone, h6 hhigh, h1]
      rfl
    · have hstore : findRecord pid (isolationFailed u) = findRecord pid v := by simp [findRecord, h8]
      rw [hstore]
      rcases Nat.lt_or_ge (levelRank s.zone.level) 3 with hlow | hhigh
      · exact findRecord_level (h5 hlow) hw
      · rw [h6 hhigh]
        exact ⟨_, hw, rfl⟩
    · exact fun b hb => by
        have := h4 b
        cases b <;> simp at hb <;> simp_all [sameBlock, u]
    · have hx : OnlyChanges [.engine, .zone, .link, .store, .atm, .tally, .port] s w :=
        OnlyChanges.trans (t := u) (fun b hb => by cases b <;> simp at hb <;> rfl) (h4.mono (by decide))
      have hy : OnlyChanges [.engine, .zone, .link, .store, .atm, .tally, .port] w v := by
        rcases Nat.lt_or_ge (levelRank s.zone.level) 3 with hlow | hhigh
        · exact (h5 hlow).others.mono (by decide)
        · rw [h6 hhigh]
          exact .refl _ w
      rw [h8]
      refine (hx.trans hy).trans (fun b hb => ?_)
      cases b <;> simp at hb <;> simp [sameBlock]

/-! ## The end of a rest -/

/-- A failed release test before the fourth round: another round (R105). -/
theorem failRound_next {s : State} {id : PackId} {r x : PackRecord} (hb : s.engine.bound = some id) (hid : r.id = id)
    (hf : findRecord id s = some x) (hr : r.data.rounds < 3) :
    failRound r s = { updateRecord id (·.withData (fun d => { d with rounds := d.rounds + 1 })) s with
      engine := s.engine.ramping s x.data } := by
  subst hid
  have hx : boundRecord (updateRecord r.id (·.withData (fun d => { d with rounds := d.rounds + 1 })) s)
      = some (x.withData (fun d => { d with rounds := d.rounds + 1 })) :=
    boundRecord_is (s := updateRecord r.id (·.withData (fun d => { d with rounds := d.rounds + 1 })) s) hb
      (findRecord_update hf _ (fun _ => rfl))
  have e : failRound r s = enterRamp (updateRecord r.id (·.withData (fun d => { d with rounds := d.rounds + 1 })) s) :=
    if_pos (by omega)
  rw [e, enterRamp_is hx]
  rfl

/-- A failed release test at the fourth round: STUBBORN, and the record stays bound in FAULT (R105). -/
theorem failRound_stubborn {s : State} {id : PackId} {r : PackRecord} (hb : s.engine.bound = some id) (hid : r.id = id)
    (hr : 3 ≤ r.data.rounds) :
    (failRound r s).engine = { s.engine.opened .fault with
        faultCause := some .stubborn
        checkTimer := none
        endNote := some { packId := id, outcome := .faulted .stubborn } }
      ∧ StoreIs { s.store with
          records := recordsWith id (·.withData (fun d => addHistory s.cfg.station .faulted
            { d with rounds := d.rounds + 1, marks := { d.marks with stubborn := true } })) s } (failRound r s)
      ∧ (failRound r s).port = (raise .dischargeFault s).port
      ∧ OnlyChanges [.engine, .store, .port] s (failRound r s) := by
  subst hid
  let u := updateRecord r.id (·.withData (fun d => { d with rounds := d.rounds + 1 })) s
  let mark := fun d : PackData => { d with marks := { d.marks with stubborn := true } }
  have e : failRound r s = enterFault .stubborn (updateBound mark u) := by
    have h : failRound r s = enterFault .stubborn (updateRecord r.id (·.withData mark) u) := if_neg (by omega)
    rw [h, updateBound_is (s := u) hb]
  obtain ⟨h1, h2, h3, h4⟩ := enterFault_changed (s := u) hb .stubborn mark
  rw [e]
  exact ⟨h1, storeIs_changedTwice (·.withData (fun d => { d with rounds := d.rounds + 1 }))
    (·.withData (fun d => addHistory s.cfg.station .faulted (mark d))) (fun _ => rfl) h2, h3.trans (raise_port_congr _ (by simp [u])),
    OnlyChanges.trans ((updateRecord_only _ _ s).mono (by decide)) h4⟩

/-- A passed release test: the record READY, its discharged energy to the tally, the engine IDLE (R105). -/
theorem releasePack_is {s : State} {id : PackId} {r : PackRecord} (hb : s.engine.bound = some id) (hid : r.id = id) :
    (releasePack r s).engine = { s.engine.opened .idle with
        bound := none, faultCause := none, endNote := some { packId := id, outcome := .done } }
      ∧ StoreIs { s.store with
          records := recordsWith id (fun x => (x.into .ready).withData (addHistory s.cfg.station .discharged)) s }
          (releasePack r s)
      ∧ (releasePack r s).tally = { s.tally with discharged := addTotal s.tally.discharged r.data.eDis }
      ∧ (releasePack r s).port = (raise .dischargeEnd (raise .recordReady s)).port
      ∧ OnlyChanges [.engine, .store, .tally, .port] s (releasePack r s) := by
  subst hid
  let u := updateRecord r.id (fun x => (x.into .ready).withData (addHistory s.cfg.station .discharged)) s
  let w := addDischarged r.data.eDis (raise .recordReady u)
  have hw : w.engine.bound = some r.id := by simpa [w, u] using hb
  have e : releasePack r s = raise .dischargeEnd (enterIdle (endNote .done w)) := rfl
  rw [e, endNote_is hw]
  refine ⟨?_, ?_, ?_, ?_, fun b hb => ?_⟩
  · rw [(raise_frame _ _).2.2.2.2.1]
    have hi : ∀ x : State, (enterIdle x).engine = { x.engine.opened .idle with bound := none, faultCause := none } :=
      fun _ => rfl
    have he : w.engine = s.engine := by simp [w, u]
    rw [hi]
    dsimp only
    rw [he]
    rfl
  · exact storeIs_congr (updateRecord_is r.id _ s) (by simp [w, u]) (by simp [w, u]) (by simp [w, u]) (by simp [w, u])
      (by simp [w, u])
  · simp [w, u, addDischarged]
  · exact raise_port_congr _ (raise_port_congr .recordReady (s := s) (by simp [u]))
  · cases b <;> simp at hb <;> simp [sameBlock, w, u]

/-- Settles O41, by the sign of V, the release test and the round. -/
theorem restEndsByReleaseTest : Obligations.RestEndsByReleaseTest := by
  intro s pid r m hq hst ht hb hf hm
  have hid := findRecord_id hf
  let u := s.withEngine { s.engine with restTimer := none }
  have hu : OnlyChanges [.engine] s u := fun b hb => by cases b <;> simp at hb <;> rfl
  have hbu : boundRecord u = some r := boundRecord_is hb hf
  have hex : exec .restTimerExpiry s = .next
      (if releasePasses m.v r u then releasePack r (computeResidual m.v r u)
       else failRound r (computeResidual m.v r u)) := by
    show Host.Outcome.next (takeRestTimerExpiry (dueSettle s)) = _
    rw [dueSettle_quiet hq, takeRestTimerExpiry, if_pos ⟨hst, ht⟩]
    show Host.Outcome.next (match boundRecord u, u.engine.lastValid with
      | some r, some m =>
        if releasePasses m.v r u then releasePack r (computeResidual m.v r u)
        else failRound r (computeResidual m.v r u)
      | _, _ => u) = _
    rw [hbu, show u.engine.lastValid = some m from hm]
  subst hid
  refine ⟨fun f hv hfig => ?_, fun hv => ?_⟩
  · subst hfig
    let f := computeFigures s m.v r.data
    let fill := fun d : PackData => { d with residual := some f.residual, basis := f.basis }
    let x := (updateRecord r.id (·.withData fill) u).withResidual
      (some { packId := r.id, v := m.v, figures := some f })
    have hx : computeResidual m.v r u = x := if_neg (Int.not_lt.2 hv)
    have hux : OnlyChanges [.engine, .store, .residual, .tally, .port] s x := fun b hb => by
      cases b <;> simp at hb <;> simp [sameBlock, x, u]
    have hfx : findRecord r.id x = some (r.withData fill) := findRecord_update hf _ (fun _ => rfl)
    have hpass : releasePasses m.v r u = decide (f.outcome = .pass) := by
      rw [releasePasses, decide_eq_true hv]
      rfl
    have hport : x.port = s.port := by simp [x, u]
    rw [hx, hpass] at hex
    by_cases hp : f.outcome = .pass
    · rw [if_pos (by simpa using hp)] at hex
      obtain ⟨h1, h2, h3, h4, h5⟩ := releasePack_is (s := x) (id := r.id) (r := r) hb rfl
      refine ⟨_, hex, (h5 .residual (by decide)).trans rfl, hux.trans (h5.mono (by decide)), fun _ => ?_,
        fun x => absurd hp x, fun x => absurd hp x⟩
      exact ⟨h1, storeIs_changedTwice (u := u) (·.withData fill)
        (fun x => (x.into .ready).withData (addHistory s.cfg.station .discharged)) (fun _ => rfl) h2, h3,
        h4.trans (raise_port_congr _ (raise_port_congr _ hport))⟩
    · rw [if_neg (by simpa using hp)] at hex
      rcases Nat.lt_or_ge r.data.rounds 3 with hr | hr
      · rw [failRound_next (s := x) hb rfl hfx hr] at hex
        refine ⟨_, hex, rfl, hux.trans fun b hb => ?_, fun x => absurd x hp, fun _ _ => ⟨rfl, ?_, rfl, hport⟩,
          fun _ x => by omega⟩
        · cases b <;> simp at hb <;> simp [sameBlock]
        · exact storeIs_congr (storeIs_changedTwice (u := u) (·.withData fill)
            (·.withData (fun d => { d with rounds := d.rounds + 1 })) (fun _ => rfl) (updateRecord_is r.id _ _))
            rfl rfl rfl rfl rfl
      · obtain ⟨h1, h2, h3, h4⟩ := failRound_stubborn (s := x) (id := r.id) (r := r) hb rfl hr
        exact ⟨_, hex, (h4 .residual (by decide)).trans rfl, hux.trans (h4.mono (by decide)), fun x => absurd x hp,
          fun _ x => by omega, fun _ _ => ⟨h1, storeIs_changedTwice (u := u) (·.withData fill)
            (·.withData (fun d => addHistory s.cfg.station .faulted
              { d with rounds := d.rounds + 1, marks := { d.marks with stubborn := true } })) (fun _ => rfl) h2, h4 .tally (by decide),
            h3.trans (raise_port_congr _ hport)⟩⟩
  · let x := u.withResidual (some { packId := r.id, v := m.v, figures := none })
    have hx : computeResidual m.v r u = x := if_pos hv
    have hux : OnlyChanges [.engine, .store, .residual, .port] s x := fun b hb => by
      cases b <;> simp at hb <;> rfl
    rw [hx, if_neg (by simp [releasePasses, hv])] at hex
    rcases Nat.lt_or_ge r.data.rounds 3 with hr | hr
    · rw [failRound_next (s := x) hb rfl hf hr] at hex
      refine ⟨_, hex, rfl, hux.trans fun b hb => ?_, fun _ => ⟨rfl, rfl, rfl, ?_⟩, fun x => by omega⟩
      · cases b <;> simp at hb <;> simp [sameBlock]
      · exact storeIs_congr (updateRecord_is r.id _ s) rfl rfl rfl rfl rfl
    · obtain ⟨h1, h2, h3, h4⟩ := failRound_stubborn (s := x) (id := r.id) (r := r) hb rfl hr
      exact ⟨_, hex, (h4 .residual (by decide)).trans rfl, hux.trans (h4.mono (by decide)), fun x => by omega,
        fun _ => ⟨by rw [h1]; rfl, by rw [h1]; rfl, by rw [h1], h3.trans (raise_port_congr _ rfl), h2⟩⟩

/-! ## The target current -/

/-- Settles O40: the commanded current is a minimum, the target step a division bounded by 63. -/
theorem targetCurrentIsLeastCap : Obligations.TargetCurrentIsLeastCap := by
  intro s p
  have hdamage : damageCap p.grade s.cfg.iBay ≤ s.cfg.iBay := by
    unfold damageCap
    split
    · omega
    · split <;> omega
  have hhalf : s.cfg.iBay / 2 ≤ damageCap p.grade s.cfg.iBay := by
    unfold damageCap
    split
    · omega
    · split <;> omega
  have hstep : ∀ i, targetStep s i ≤ 63 ∧ targetStep s i ≤ i / s.cfg.stepCurrent := fun i =>
    ⟨Nat.min_le_left .., Nat.min_le_right ..⟩
  have hcurrent : commandedCurrent s p =
      if channelOut s 5 = true ∨ s.zone.level = .prealarm then min (s.cfg.iBay / 2) p.iPack
      else min s.cfg.iBay (min p.iPack (damageCap p.grade s.cfg.iBay)) := by
    unfold commandedCurrent
    by_cases h5 : channelOut s 5 = true <;> by_cases hz : s.zone.level = .prealarm <;> simp [h5, hz] <;> omega
  refine ⟨?_, ?_, ?_, ?_, ?_, ?_, ?_, ?_, ?_, ?_⟩
  · intro c hc
    simp only [List.mem_cons, List.not_mem_nil, or_false] at hc
    rw [hcurrent]
    rcases hc with rfl | rfl | rfl <;> split <;> omega
  · intro h
    rw [hcurrent, if_pos h]
    omega
  · rw [hcurrent]
    simp only [List.mem_cons, List.not_mem_nil, or_false]
    split <;> omega
  · intro h5 hz
    rw [hcurrent, if_neg (by simp [h5, hz])]
  · intro h; simp [damageCap, h]
  · intro h; simp [damageCap, h]
  · intro h; simp [damageCap, h]
  · intro i
    refine ⟨(hstep i).1, (Nat.mul_le_mul_right _ (hstep i).2).trans (Nat.div_mul_le_self ..), fun h0 h63 => ?_⟩
    have hd : targetStep s i = i / s.cfg.stepCurrent := by
      unfold targetStep at *
      omega
    rw [hd, ← Nat.div_lt_iff_lt_mul h0]
    omega
  · refine (hstep _).2.trans (Nat.div_le_div_right ?_)
    rw [hcurrent]
    split <;> omega
  · intro h0 h1 h2
    have hc : s.cfg.stepCurrent ≤ commandedCurrent s p := by
      rw [hcurrent]
      split <;> omega
    exact Nat.le_min.2 ⟨by omega, Nat.div_pos hc h0⟩

/-! ## Integration -/

/-- Settles O43: with and without saturation. -/
theorem integrationIsExact : Obligations.IntegrationIsExact := by
  intro uj p h1 h2
  have hd := Nat.div_add_mod (p.eDisRem + uj) 1000000
  have hm := Nat.mod_lt (p.eDisRem + uj) (show 0 < 1000000 by decide)
  by_cases hc : 4294967295 < p.eDis + (p.eDisRem + uj) / 1000000
  · have e : integrate uj p = { p with eDis := 4294967295, eDisRem := 999999 } := if_pos hc
    rw [e]
    exact ⟨le_refl _, le_refl _, fun h => by omega, fun _ => ⟨rfl, rfl⟩, rfl⟩
  · have e : integrate uj p = { p with
        eDis := p.eDis + (p.eDisRem + uj) / 1000000, eDisRem := (p.eDisRem + uj) % 1000000 } := if_neg hc
    rw [e]
    exact ⟨by dsimp only; omega, by dsimp only; omega, fun h => by dsimp only; omega, fun h => by omega, rfl⟩

end Sys2Proof.Machine
end

section
/-! PROOF. The purge, the countdown, the station port and its tests and reads, obligations O45 to O50 and O60. -/

namespace Sys2Proof.Machine

open Sys2Proof

set_option Elab.async false

/-! ## The purge -/

/-- Settles O45, by the cases of R131 and the count of attempts. -/
theorem purgeAttempts : Obligations.PurgeAttempts := by
  intro s h
  have he : ∀ tag, exec (.purge tag) s = .next (if s.cfg.role ≠ .chamber then replyRefused tag .role s
      else if s.atm.state = .purging then replyBusy tag s
      else if s.atm.state = .inert ∨ s.atm.state = .watch then replyRefused tag .active s
      else if channelOut s 7 = false then replyRefused tag .door s
      else if bothSuppliesLow s then replyRefused tag .supply s
      else replyDone tag [] (enterPurging s)) := fun tag => take_ready h tag _
  have hx : s.atm.state = .purging → s.atm.purgeTimer.isSome = true → exec .purgeTimerExpiry s = .next (purgeExpiry s) :=
    fun h1 h2 => (next_whenActive h _).trans (by rw [if_pos ⟨h1, h2⟩])
  refine ⟨fun tag hr hs hd hl => ?_, fun tag r hr => ?_, fun tag hr hs => ?_, fun hs ht ha => ?_, fun hs ht ha => ?_⟩
  · have hne : s.atm.state ≠ .purging ∧ ¬(s.atm.state = .inert ∨ s.atm.state = .watch) := by
      rcases hs with hs | hs <;> simp [hs]
    rw [he, if_neg (by simp [hr]), if_neg hne.1, if_neg hne.2, if_neg (by simp [hd]), if_neg (by simp [hl])]
    have hc := changeAtm_is .purging .purgeRequested (s.withAtm { s.atm with
      attempts := 1, purgeTimer := some s.cfg.purgeMax, tripCause := .none })
    refine ⟨_, rfl, ?_, hc.store, hc.port.trans (raise_port_congr _ rfl), fun b hb => ?_⟩
    · exact hc.atm
    · have ht : (enterPurging s).tally = s.tally := hc.tally
      cases b <;> simp at hb <;> simp [sameBlock, ht]
  · rw [he]
    rcases hr with ⟨hr, rfl⟩ | ⟨hr, hs, rfl⟩ | ⟨hr, hs, hx⟩
    · rw [if_pos hr]
    · rw [if_neg (by simp [hr]), if_neg (by rcases hs with hs | hs <;> simp [hs]), if_pos hs]
    · rw [if_neg (by simp [hr]), if_neg (by rcases hs with hs | hs <;> simp [hs]),
        if_neg (by rcases hs with hs | hs <;> simp [hs])]
      rcases hx with ⟨hd, rfl⟩ | ⟨hd, hl, rfl⟩
      · rw [if_pos hd]
      · rw [if_neg (by simp [hd]), if_pos hl]
  · rw [he, if_neg (by simp [hr]), if_pos hs]
  · rw [hx hs ht, purgeExpiry, if_pos ha]
    refine ⟨_, rfl, ?_, raise_port_congr _ rfl, fun b hb => ?_⟩
    · simp [noteAtm, hs]
    · cases b <;> simp at hb <;> simp [sameBlock]
  · rw [hx hs ht, purgeExpiry, if_neg (by omega)]
    have hc := enterTrip_is .purgeFailed s
    have ht : (enterTrip .purgeFailed s).atm = { feedDropped .atmosphere s with
        state := .trip, tripCause := .purgeFailed, purgeTimer := none, purgeValve := false, makeUpValve := false
        boost := false, note := some { state := .trip, cause := .trip .purgeFailed } } := hc.atm
    have htally : (enterTrip .purgeFailed s).tally = s.tally.lotClosed .atmosphere := hc.tally
    refine ⟨_, rfl, hc, by rw [ht], by rw [ht], by rw [ht], by rw [ht], by rw [ht], by rw [ht], by rw [ht]; rfl,
      by rw [ht], ?_, hc.store, fun b hb => ?_⟩
    · rw [htally, Tally.lotClosed]
      split
      · rfl
      · assumption
    · cases b <;> simp at hb <;> simp [sameBlock]

/-! ## The end of the countdown -/

/-- Settles O46: a change of level that is no rise to an ALARM level. -/
theorem countdownReleases : Obligations.CountdownReleases := by
  intro s hq hl hd
  have he : exec .countdownEnd s = .next (changeLevel .released false s.zone.cause .own s) := by
    show Host.Outcome.next (takeCountdownEnd (dueCheck s)) = _
    rw [dueCheck_quiet hq, takeCountdownEnd, if_pos ⟨hl, hd⟩]
  have hc := changeLevel_is .released false s.zone.cause .own s
  have hno : ¬risesToAlarm s.zone.level .released := by rw [hl]; decide
  have hz := hc.zone
  have hs := hc.store
  have hlink := hc.link
  have ht := hc.tally
  have hg : (changeLevel .released false s.zone.cause .own s).engine = s.engine := by
    rw [hc.engine, if_neg hno, if_pos (by decide)]
  have hp := hc.port
  rw [if_neg hno] at hs hlink ht hp
  refine ⟨_, he, hz.trans (by simp), fun ha => ?_, hc.atm, hg, ht, hs, hp, fun b hb => ?_⟩
  · rw [hlink]
    simp only [placedAll, List.foldl_nil, Link.withAlarm, ha]
    rfl
  · have := hc.others b
    cases b <;> simp at hb <;> simp_all [sameBlock]

/-! ## Replies, events and the queue -/

theorem kindNumber_bounds (k : EventKind) : 1 ≤ kindNumber k ∧ kindNumber k ≤ 16 := by cases k <;> decide

/-- The attention output is asserted exactly while some unmasked kind is pending (R194). -/
theorem attentionOf_iff (counts : Sixteen Nat) (masks : Sixteen Bool) :
    attentionOf counts masks = true ↔ ∃ n, 1 ≤ n ∧ n ≤ 16 ∧ 0 < at1 0 counts n ∧ at1 false masks n = false := by
  simp only [attentionOf, List.any_eq_true, mem_sixteen, Bool.and_eq_true, decide_eq_true_eq, Bool.not_eq_true',
    and_assoc]

/-- Settles O47, operation by operation. -/
theorem repliesAndEvents : Obligations.RepliesAndEvents := by
  refine ⟨fun r s => ⟨fun hq => ?_, fun q hq => ?_⟩, fun k s => ⟨raise_only k s, ?_, fun n hn => ?_, ?_, rfl⟩,
    fun f s => ⟨fun ha hl => ?_, fun ha hl => ?_, fun hc => ?_⟩⟩
  · rw [formReply, if_neg (by simp [hq])]
    rfl
  · rw [formReply, if_pos (by simp [hq])]
    rfl
  · rw [raise_port, at1_set1, if_pos ⟨rfl, kindNumber_bounds k⟩]
    rfl
  · rw [raise_port, at1_set1, if_neg (fun x => hn x.1)]
  · exact attentionOf_iff _ _
  · rw [placeHandoff, if_neg (by simp [ha]), if_pos hl]
    rfl
  · rw [placeHandoff, if_neg (by simp [ha]), if_neg (by omega)]
    rfl
  · rw [placeHandoff, if_pos hc]

/-! ## Transfers -/

/-- The port after the reading of a READ EVENTS reply: what it returned is cleared (R192, R194). -/
theorem clearReturned_port (x : EventsReturned) (s : State) :
    (clearReturned x s).port = { s.port with
      counts := Vector.zipWith (fun a b => a - b) s.port.counts x.counts
      overruns := s.port.overruns - x.overruns
      reChange := Vector.replicate 16 false
      attention := attentionOf (Vector.zipWith (fun a b => a - b) s.port.counts x.counts) s.port.kindMasks } := rfl

/-- The channels after the reading of a READ EVENTS reply: the flags that it returned are clear, but for those set again
since (R192). -/
theorem clearReturned_channel (x : EventsReturned) (s : State) {k : Nat} (h1 : 1 ≤ k) (h2 : k ≤ 16) :
    channelAt (clearReturned x s) k = { channelAt s k with
      flag := (channelAt s k).flag && !(at1 false x.flags k && !at1 false s.port.reChange k) } := by
  obtain ⟨j, rfl⟩ : ∃ j, k = j + 1 := ⟨k - 1, by omega⟩
  exact at1_ofFn _ _ h1 h2

/-- The counts after the reading of a READ EVENTS reply. -/
theorem clearReturned_count (x : EventsReturned) (s : State) {k : Nat} (h1 : 1 ≤ k) (h2 : k ≤ 16) :
    at1 0 (clearReturned x s).port.counts k = at1 0 s.port.counts k - at1 0 x.counts k := by
  rw [clearReturned_port, at1_eq _ _ h1 h2, at1_eq _ _ h1 h2, at1_eq _ _ h1 h2]
  exact Vector.getElem_zipWith ..

/-- Settles O48: the verdict on the envelope, and a transfer that reaches the copy's end or not. -/
theorem transfersAnswered : Obligations.TransfersAnswered := by
  intro s h
  have hd := takeDue_of_noneDue h
  refine ⟨fun bs tag ht => ?_, fun n => ?_⟩
  · subst ht
    have he : ∀ v, judgeEnvelope bs = v → exec (.badEnvelope bs) s = .next (match v with
        | .nothing => s
        | .good => s
        | .length => replyBad (bs.getD 2 0) .length s
        | .sum => replyBad (bs.getD 2 0) .sum s
        | .code => replyBad (bs.getD 2 0) .code s) := by
      intro v hv
      show execBadEnvelope bs s = _
      unfold execBadEnvelope
      rw [hd, hv]
      cases v <;> rfl
    exact ⟨fun hv => he _ hv, fun hv => he _ hv, fun hv => he _ hv, fun hv => he _ hv⟩
  · let u := s.withPort { s.port with clockedOut := clockOut n (replyCopy s.port) }
    have hnone : s.port.pendingReply = none → exec (.replyRead n) s = .next u := by
      intro hq
      show execReplyRead n s = _
      unfold execReplyRead
      rw [hd]
      dsimp only
      split
      case h_1 r hr => cases hr.symm.trans hq
      case h_2 => rfl
    have hsome : ∀ r, s.port.pendingReply = some r →
        exec (.replyRead n) s = .next (if (replyCopy s.port).length ≤ n then leaveReply r u else u) := by
      intro r hq
      show execReplyRead n s = _
      unfold execReplyRead
      rw [hd]
      dsimp only
      split
      case h_1 r' hr => cases hr.symm.trans hq; rfl
      case h_2 hr => cases hr.symm.trans hq
    have hu : OnlyChanges [.port, .bank] s u := fun b hb => by cases b <;> simp at hb <;> rfl
    cases hq : s.port.pendingReply with
    | none => exact ⟨u, hnone hq, rfl, hu, fun _ => rfl, fun r hr => by cases hr⟩
    | some r =>
      by_cases hn : (replyCopy s.port).length ≤ n
      · refine ⟨leaveReply r u, (hsome r hq).trans (congrArg _ (if_pos hn)), ?_, ?_, fun x => ?_, fun r' hr' _ => ?_⟩
        · unfold leaveReply
          cases r.returned <;> rfl
        · refine hu.trans fun b hb => ?_
          cases b <;> simp at hb <;> simp [sameBlock]
        · rcases x with x | x
          · cases x
          · omega
        · cases hr'
          cases hx : r.returned with
          | none =>
            simp only [leaveReply, hx]
            exact ⟨rfl, rfl, rfl, fun _ => ⟨rfl, rfl, rfl, rfl⟩, fun x hy => (by cases hy)⟩
          | some x =>
            simp only [leaveReply, hx]
            refine ⟨rfl, rfl, rfl, fun hy => (by cases hy), fun y hy => ?_⟩
            cases hy
            refine ⟨rfl, fun k h1 h2 => ⟨clearReturned_count x _ h1 h2, ?_, ?_⟩, rfl⟩
            · rw [clearReturned_channel x _ h1 h2]
              rfl
            · rw [clearReturned_channel x _ h1 h2]
              rfl
      · exact ⟨u, (hsome r hq).trans (congrArg _ (if_neg hn)), rfl, hu, fun _ => rfl, fun r hr hx => absurd hx hn⟩

/-! ## Tests and masks -/

/-- A bit of a word by its value. -/
theorem natBit_toNat {w : Nat} (v : BitVec w) (i : Nat) : natBit v.toNat i = v.getLsbD i := by
  rw [BitVec.getLsbD, Nat.testBit_eq_decide_div_mod_eq]
  rfl

/-- Settles O49: the case of R52 is that of `testChannelOf`, for a channel and for a detector alike. -/
theorem testsAndMasks : Obligations.TestsAndMasks := by
  intro tag s h
  have hf : exec (.testFrame tag) s = .next (if s.link.state = .clashed then replyRefused tag .clashed s
      else replyDone tag [] (s.withLink { s.link with testRequest := true })) := take_ready h tag _
  have hc : ∀ n : Byte, exec (.testChannel tag n) s = .next (if n.toNat < 1 ∨ 16 < n.toNat then replyBad tag .parameter s
      else testChannelOf tag n.toNat s) := fun n => take_ready h tag _
  have hd : ∀ n : Byte, exec (.testDetector tag n) s = .next (if n.toNat < 1 ∨ 4 < n.toNat then replyBad tag .parameter s
      else testChannelOf tag n.toNat s) := fun n => take_ready h tag _
  refine ⟨fun ha => ?_, fun ha => ?_, fun n c hcd => ⟨fun hn => ?_, fun h1 h2 => ?_⟩, fun n hn => ?_, fun ks cs => ?_⟩
  · rw [hf, if_neg (by simp [ha])]
    rfl
  · rw [hf, if_pos ha]
  · rcases hcd with rfl | ⟨rfl, h4⟩
    · rw [hc, if_pos (by omega)]
    · rw [hd, if_pos (by omega)]
  · have he : exec c s = .next (testChannelOf tag n.toNat s) := by
      rcases hcd with rfl | ⟨rfl, h4⟩
      · rw [hc, if_neg (by omega)]
      · rw [hd, if_neg (by omega)]
    have hnt : notTestable n.toNat = true ↔ n.toNat ∈ [7, 8, 9, 10] := by simp [notTestable]
    rw [he, testChannelOf]
    simp only [hnt]
    rfl
  · rw [hd, if_pos (by omega)]
  · have hport : ∀ (k c : Sixteen Bool) (u : State),
        u = s.withPort (formAttention { s.port with kindMasks := k, channelMasks := c }) →
        u.port = { s.port with
            kindMasks := u.port.kindMasks
            channelMasks := u.port.channelMasks
            attention := attentionOf s.port.counts u.port.kindMasks }
          ∧ u.port.kindMasks = k ∧ u.port.channelMasks = c ∧ OnlyChanges [.port] s u := by
      rintro k c u rfl
      exact ⟨rfl, rfl, rfl, fun b hb => by cases b <;> simp at hb <;> rfl⟩
    let masks := fun v : BitVec 16 => (Vector.ofFn (fun k : Fin 16 => natBit v.toNat (15 - k.val)) : Sixteen Bool)
    have he : exec (.setMask tag ks cs) s = .next (replyDone tag []
        (s.withPort (formAttention { s.port with kindMasks := masks ks, channelMasks := masks cs }))) :=
      take_ready h tag _
    generalize hu : s.withPort (formAttention { s.port with kindMasks := masks ks, channelMasks := masks cs }) = u at he
    obtain ⟨h1, h2, h3, h4⟩ := hport _ _ u hu.symm
    refine ⟨u, he, fun k hk1 hk2 => ?_, h1, h4⟩
    have e : ∀ v : BitVec 16, at1 false (masks v) k = v.getLsbD (16 - k) := by
      intro v
      rw [at1_ofFn _ _ hk1 hk2, natBit_toNat]
      congr 1
      simp only
      omega
    rw [h2, h3]
    exact ⟨e ks, e cs⟩

/-! ## Admission -/

/-- The entry of a station once it was examined against the allow list (R25). -/
def examinedEntry (s : State) (e : PeerEntry) : PeerEntry :=
  if e.admission = .admitted ∧ e.recordedId.any (onAllowList s) = false then
    { e.afresh with admission := .refused .notListed }
  else e

/-- The examination of one entry changes that entry and the note of the Peer Table alone. -/
theorem examineListed_peers {n : Nat} (hn : stationOk n = true) (s : State) :
    (∀ m, (examineListed n s).peer m = if m = n then examinedEntry s (s.peer m) else s.peer m)
      ∧ (examineListed n s).peers = { s.peers with
          entries := (examineListed n s).peers.entries, note := (examineListed n s).peers.note } := by
  unfold examineListed
  dsimp only
  by_cases h : (s.peer n).admission = .admitted ∧ (s.peer n).recordedId.any (onAllowList s) = false
  · rw [if_pos h]
    refine ⟨fun m => ?_, by simp [peerChange, State.setPeer]⟩
    have hp : ∀ u : State, (peerHandover n (peerChange (.refused .notListed) n (endExchanges n u))).peer m = u.peer m :=
      fun u => by simp [State.peer, peerChange]
    rw [hp]
    by_cases hm : m = n
    · subst hm
      rw [if_pos rfl, peer_setPeer_same hn, examinedEntry, if_pos h]
    · rw [if_neg hm, peer_setPeer_other _ hm]
  · rw [if_neg h]
    refine ⟨fun m => ?_, rfl⟩
    by_cases hm : m = n
    · subst hm
      rw [if_pos rfl, examinedEntry, if_neg h]
    · rw [if_neg hm]

/-- The examination of several entries, each of them at most once. -/
theorem examineListed_fold (l : List Nat) : ∀ s : State, l.Nodup → (∀ n ∈ l, stationOk n = true) →
    (∀ m, (l.foldl (fun s n => examineListed n s) s).peer m
        = if m ∈ l then examinedEntry s (s.peer m) else s.peer m)
      ∧ (l.foldl (fun s n => examineListed n s) s).peers = { s.peers with
          entries := (l.foldl (fun s n => examineListed n s) s).peers.entries
          note := (l.foldl (fun s n => examineListed n s) s).peers.note } := by
  induction l with
  | nil => exact fun s _ _ => ⟨fun m => by simp, rfl⟩
  | cons n l ih =>
    intro s hd hl
    obtain ⟨hnl, hd'⟩ := List.nodup_cons.1 hd
    obtain ⟨h1, h2⟩ := examineListed_peers (hl n (List.mem_cons_self ..)) s
    obtain ⟨i1, i2⟩ := ih (examineListed n s) hd' (fun m hm => hl m (List.mem_cons_of_mem _ hm))
    have hs : ∀ e, examinedEntry (examineListed n s) e = examinedEntry s e := by
      intro e
      have hc : (examineListed n s).cfg = s.cfg := by simp
      have ho : onAllowList (examineListed n s) = onAllowList s := by funext id; simp only [onAllowList, hc]
      simp only [examinedEntry, ho]
    rw [List.foldl_cons]
    refine ⟨fun m => ?_, ?_⟩
    · rw [i1, hs, h1]
      by_cases hm : m = n
      · subst hm
        rw [if_neg hnl, if_pos rfl, if_pos (List.mem_cons_self ..)]
      · have hmem : m ∈ n :: l ↔ m ∈ l := by simp [hm]
        simp only [if_neg hm, hmem]
    · rw [i2, h2]

theorem mem_stationNumbers {n : Nat} : n ∈ stationNumbers ↔ stationOk n = true := by
  simp only [stationNumbers, List.mem_map, List.mem_range, stationOk, decide_eq_true_eq]
  constructor
  · rintro ⟨k, hk, rfl⟩
    omega
  · rintro ⟨h1, h2⟩
    exact ⟨n - 1, by omega, by omega⟩

theorem stationNumbers_nodup : stationNumbers.Nodup :=
  List.nodup_range.map (fun _ _ h => Nat.succ.inj h)

/-- Settles O50, by the mode byte. -/
theorem admissionModeTaken : Obligations.AdmissionModeTaken := by
  intro tag mode s h
  have he : exec (.setAdmission tag mode) s = .next (match modeOf mode.toNat with
      | none => replyBad tag .parameter s
      | some m =>
        if channelOut s 9 = false then replyRefused tag .key s
        else replyDone tag [] (if m = .opened then s.withPeers { s.peers with mode := m }
          else examineAllListed (s.withPeers { s.peers with mode := m }))) := take_ready h tag _
  rw [he]
  refine ⟨fun hm => ?_, fun hm hk => ?_, fun hm hk => ?_, fun m hm hk => ?_⟩
  · have hmode : modeOf mode.toNat = none := by
      obtain ⟨k, hk⟩ : ∃ k, mode.toNat = k + 3 := ⟨mode.toNat - 3, by omega⟩
      rw [hk]
      rfl
    rw [hmode]
  · have hmode : ∃ m, modeOf mode.toNat = some m := by
      rcases (by omega : mode.toNat = 0 ∨ mode.toNat = 1 ∨ mode.toNat = 2) with e | e | e <;> rw [e] <;>
        exact ⟨_, rfl⟩
    obtain ⟨m, hmode⟩ := hmode
    simp only [hmode, if_pos hk]
  · have hmode : modeOf mode.toNat = some .opened := by rw [hm]; rfl
    simp only [hmode, hk, Bool.true_eq_false, if_false, if_true]
    rfl
  · have hmode : modeOf mode.toNat = some m ∧ m ≠ .opened := by
      rcases hm with ⟨e, rfl⟩ | ⟨e, rfl⟩ <;> rw [e] <;> exact ⟨rfl, by decide⟩
    let u := s.withPeers { s.peers with mode := m }
    simp only [hmode.1, hk, Bool.true_eq_false, if_false, if_neg hmode.2]
    obtain ⟨h1, h2⟩ := examineListed_fold stationNumbers u stationNumbers_nodup (fun n hn => mem_stationNumbers.1 hn)
    have hall := examineListed_all stationNumbers u
    rw [← examineAllListed] at h1 h2 hall
    refine ⟨examineAllListed u, rfl, hall, h2, fun n hn => ?_, fun b hb => ?_⟩
    · refine (h1 n).trans ?_
      rw [if_pos (mem_stationNumbers.2 hn)]
      have hid : (s.peer n).recordedId.any (onAllowList u) = false ↔
          ¬∃ id ∈ s.cfg.allowList, (s.peer n).recordedId = some id := by
        cases (s.peer n).recordedId with
        | none => simp
        | some id => simp [onAllowList, u]
      show examinedEntry u (s.peer n) = _
      unfold examinedEntry
      simp only [hid]
      rfl
    · cases b <;> simp at hb <;> simp [sameBlock, u]

/-! ## Reads -/

/-- Settles O60, request by request. -/
theorem readsAnswered : Obligations.ReadsAnswered := by
  intro tag s
  refine ⟨fun h => ⟨fun x hx => ?_, fun n => ?_, fun id => ?_, ?_, fun n => ?_⟩, fun h => ?_⟩
  · simp only [List.mem_cons, List.not_mem_nil, or_false] at hx
    rcases hx with rfl | rfl | rfl | rfl | rfl | rfl | rfl | rfl <;> exact take_ready h tag _
  · have he : exec (.readPeer tag n) s = .next (if stationOk n.toNat = false then replyBad tag .parameter s
        else if n.toNat = s.cfg.station then replyRefused tag .own s
        else replyDone tag (peerItems n.toNat s) s) := take_ready h tag _
    have hok : 1 ≤ n.toNat → n.toNat ≤ 31 → stationOk n.toNat = true := fun h1 h2 => by simp [stationOk, h1, h2]
    rw [he]
    refine ⟨fun hn => ?_, fun h1 h2 hn => ?_, fun h1 h2 hn => ?_⟩
    · rw [if_pos (by simp only [stationOk, decide_eq_false_iff_not]; omega)]
    · rw [if_neg (by simp [hok h1 h2]), if_pos hn]
    · rw [if_neg (by simp [hok h1 h2]), if_neg hn]
  · have he : exec (.readRecord tag id) s = .next (match findRecord id s with
        | some r => replyDone tag (recordItems r) s
        | none =>
          match findReservation id s with
          | some v => replyDone tag (reservationItems v) s
          | none => replyRefused tag .unknown s) := take_ready h tag _
    rw [he]
    exact ⟨fun r hr => by rw [hr], fun v hr hv => by rw [hr, hv], fun hr hv => by rw [hr, hv]⟩
  · refine ⟨s.atm.purgeTimer.map (fun loaded => min loaded (Config.freePurgeSeconds s.draws)),
      (take_ready h tag _).trans ?_, ?_, ?_⟩
    · cases s.atm.purgeTimer <;> rfl
    · intro hp
      rw [hp]
      rfl
    · intro loaded hp
      rw [hp]
      exact ⟨_, rfl, Nat.min_le_left ..⟩
  · have he : exec (.readLot tag n) s = .next (if s.cfg.role ≠ .chamber then replyRefused tag .role s
        else if n.toNat = 0 then
          match s.tally.openLot with
          | some l => replyDone tag (lotItems l) s
          | none => replyRefused tag .none s
        else match findLot n.toNat s with
          | some l => replyDone tag (lotItems l) s
          | none => replyRefused tag .unknown s) := take_ready h tag _
    rw [he]
    refine ⟨fun hr => by rw [if_pos hr], fun hr hn => ?_, fun hr hn => ?_⟩
    · rw [if_neg (by simp [hr]), if_pos hn]
      exact ⟨fun hl => by rw [hl], fun l hl => by rw [hl]⟩
    · rw [if_neg (by simp [hr]), if_neg hn]
      refine ⟨fun hl => ?_, fun pre l post hl hpre hx => ?_⟩
      · have hf : findLot n.toNat s = none := by
          rw [findLot, List.find?_eq_none]
          exact fun l hm => by simpa using hl l hm
        rw [hf]
      · have hf : findLot n.toNat s = some l := by
          rw [findLot, hl, List.find?_append]
          have hp : pre.find? (fun l => decide (l.number = n.toNat)) = none := by
            rw [List.find?_eq_none]
            exact fun x hm => by simpa using hpre x hm
          rw [hp]
          simp [hx]
        rw [hf]
  · have hd := takeDue_of_noneDue h
    refine ⟨?_, readEvents tag s, _, ?_, rfl, rfl⟩
    · show execReadConfigStatus tag s = _
      unfold execReadConfigStatus
      rw [hd]
    · show execReadEvents tag s = _
      unfold execReadEvents
      rw [hd]

end Sys2Proof.Machine
end

section
/-! PROOF. The requests of the Pack Store and of the Discharge Engine, obligations O51 to O55. -/

namespace Sys2Proof.Machine

open Sys2Proof

set_option Elab.async false

/-! ## ADMIT PACK -/

/-- The clamping of ADMIT PACK, by the values carried (R60). -/
theorem admitClamps_iff (p : AdmitParams) :
    admitClamps p = true ↔ p.eDeclPresence.toNat = 1 ∧ p.eNom.toNat < p.eDecl.toNat ∨ 40000 < p.iPack.toNat := by
  by_cases h : p.eDeclPresence.toNat = 1 <;> simp [admitClamps, carriedDeclared, h]

/-- The record that ADMIT PACK leaves in the store (R60, R61). -/
def admittedRecord (p : AdmitParams) (s : State) : PackRecord :=
  { id := p.packId, data := admitData p s, state := if p.grade.toNat = 3 then .ready else .held }

/-- A record that was not held changes only itself when it is changed after joining. -/
theorem recordsWith_join {id : PackId} {r : PackRecord} {s : State} (h : findRecord id s = none) (hid : r.id = id)
    (f : PackRecord → PackRecord) : recordsWith id f (joinRecord r s) = s.store.records ++ [f r] := by
  have hne : ∀ x ∈ s.store.records, x.id ≠ id := by simpa [findRecord] using h
  have hkeep : s.store.records.map (fun x => if x.id = id then f x else x) = s.store.records :=
    (List.map_congr_left (fun x hx => if_neg (hne x hx))).trans (List.map_id' _)
  show (s.store.records ++ [r]).map _ = _
  rw [List.map_append, hkeep]
  simp [hid]

/-- An admission before the Zone Unit is told of it: the record, the counter, and RECORD READY at grade 3. -/
theorem admitted_is {p : AdmitParams} {s : State} (hr : s.cfg.role = .bay) (hf : findRecord p.packId s = none) :
    ∃ u, admitPack p s = zoneTakesStore u
      ∧ StoreIs { s.store with records := s.store.records ++ [admittedRecord p s] } u
      ∧ u.tally = { s.tally with admitted := s.tally.admitted.bump }
      ∧ u.port = (if p.grade.toNat = 3 then (raise .recordReady s).port else s.port)
      ∧ OnlyChanges [.store, .tally, .port] s u := by
  let r : PackRecord := { id := p.packId, data := admitData p s, state := .held }
  let w := countAdmitted (joinRecord r s)
  have hw : findRecord p.packId w = some r := findRecord_join hf rfl
  have hm : marksForbid r.data.marks = decide (p.grade.toNat = 3) := by simp [r, admitData, marksForbid]
  obtain ⟨h1, h2, h3⟩ := holdRecord_bay (s := w) hr hw
  have hrec : recordsWith p.packId (fun x => x.into (if marksForbid r.data.marks then .ready else .held)) w
      = s.store.records ++ [admittedRecord p s] := by
    refine (recordsWith_join hf rfl _).trans ?_
    rw [hm]
    by_cases hg : p.grade.toNat = 3 <;> simp [hg, admittedRecord, r, PackRecord.into]
  rw [hrec] at h1
  refine ⟨holdRecord p.packId w, rfl, h1, ?_, h2.trans ?_, ?_⟩
  · rw [(h3 .tally (by decide))]
    simp [w, countAdmitted]
  · rw [hm]
    by_cases hg : p.grade.toNat = 3
    · simp only [hg, decide_true, if_true]
      exact raise_port_congr _ (by simp [w, countAdmitted])
    · simp [hg, w, countAdmitted]
  · have hs : OnlyChanges [.store, .tally, .port] s w := fun b hb => by
      cases b <;> simp at hb <;> simp [sameBlock, w, countAdmitted]
    exact hs.trans (h3.mono (by decide))

/-- Settles O51, by the cases of R60 in their order. -/
theorem packAdmitted : Obligations.PackAdmitted := by
  intro tag p s h
  have he : exec (.admitPack tag p) s = .next (if s.cfg.role ≠ .bay then replyRefused tag .role s
      else if admitOk p s = false then replyBad tag .parameter s
      else if (findRecord p.packId s).isSome ∨ (findReservation p.packId s).isSome then replyRefused tag .duplicate s
      else if 8 ≤ entriesHeld s then replyRefused tag .full s
      else formReply { code := .done, tag := tag, reason := if admitClamps p then .clamped else .none }
        (admitPack p s)) := take_ready h tag _
  rw [he]
  refine ⟨fun hr => by rw [if_pos hr], fun hr hok => by rw [if_neg (by simp [hr]), if_pos hok], fun hr hok hd => ?_,
    fun hr hok hf hv h8 => ?_, fun hr hok hf hv h8 => ?_⟩
  · rw [if_neg (by simp [hr]), if_neg (by simp [hok]), if_pos (by simpa [Option.isSome_iff_ne_none] using hd)]
  · rw [if_neg (by simp [hr]), if_neg (by simp [hok]), if_neg (by simp [hf, hv]), if_pos h8]
  · rw [if_neg (by simp [hr]), if_neg (by simp [hok]), if_neg (by simp [hf, hv]), if_neg (by omega)]
    obtain ⟨u, hu, hs, ht, hp, ho⟩ := admitted_is hr hf
    refine ⟨u, admittedRecord p s, ?_, rfl, rfl, ?_, rfl, rfl, rfl, rfl, rfl, hs, ht, hp, ho⟩
    · rw [hu]
      simp only [admitClamps_iff]
    · show admitData p s = _
      by_cases h1 : p.eDeclPresence.toNat = 1 <;> simp [admitData, carriedDeclared, h1]

/-! ## FORWARD, HOLD, RECOVER, REMOVE -/

/-- A record made READY by a request (R61, R62, R82). -/
theorem makeReady_is (id : PackId) (s : State) :
    StoreIs { s.store with records := recordsWith id (·.into .ready) s } (makeReady id s)
      ∧ (makeReady id s).port = (raise .recordReady s).port ∧ OnlyChanges [.store, .port] s (makeReady id s) :=
  ⟨storeIs_congr (updateRecord_is id _ s) (by simp [makeReady]) (by simp [makeReady]) (by simp [makeReady])
      (by simp [makeReady]) (by simp [makeReady]),
    raise_port_congr _ (by simp), ((updateRecord_only _ _ s).mono (by decide)).trans ((raise_only _ _).mono (by decide))⟩

theorem removable_iff (x : RecordState) : removable x = true ↔ x ∈ [.held, .ready, .halted, .adrift] := by
  cases x <;> decide

/-- Settles O52, by the state of the record. -/
theorem recordRequests : Obligations.RecordRequests := by
  intro tag id s h
  have hfw : exec (.forward tag id) s = .next (if s.cfg.role ≠ .pass then replyRefused tag .role s
      else match findRecord id s with
        | none => replyRefused tag .unknown s
        | some r =>
          if r.state = .held then replyDone tag [] (makeReady id s)
          else if r.state = .ready then replyDone tag [] s
          else replyBusy tag s) := take_ready h tag _
  have hho : exec (.hold tag id) s = .next (if s.cfg.role ≠ .pass then replyRefused tag .role s
      else match findRecord id s with
        | none => replyRefused tag .unknown s
        | some r =>
          if r.state = .ready then
            replyDone tag [] (updateRecord id (fun x => { x.into .held with backOff := none }) s)
          else if r.state = .held then replyDone tag [] s
          else replyBusy tag s) := take_ready h tag _
  have hre : exec (.recover tag id) s = .next (match findRecord id s with
      | none => replyRefused tag .unknown s
      | some r =>
        if r.state = .halted ∨ r.state = .adrift then replyDone tag [] (makeReady id s) else replyBusy tag s) :=
    take_ready h tag _
  have hrm : exec (.remove tag id) s = .next (match findRecord id s with
      | some r =>
        if removable r.state then replyDone tag [] (zoneTakesStore (countRemoved (dropRecord id s)))
        else replyBusy tag s
      | none => if (findReservation id s).isSome then replyBusy tag s else replyRefused tag .unknown s) :=
    take_ready h tag _
  rw [hfw, hho, hre, hrm]
  refine ⟨fun hr => by simp [hr], fun hf => by simp +contextual [hf], fun r c hf hc => ?_, fun r hf hr hst => ?_,
    fun r hf hr hst => by simp [hf, hr, hst], fun r hf hr h1 h2 => by simp [hf, hr, h1, h2],
    fun r hf h1 h2 => by simp [hf, h1, h2], fun r hf hst => ?_, fun r hf hst => ?_⟩
  · refine ⟨makeReady id s, ?_, makeReady_is id s⟩
    rcases hc with ⟨hr, hst, rfl⟩ | ⟨hst, rfl⟩
    · simp [hfw, hf, hr, hst]
    · simp [hre, hf, hst]
  · exact ⟨by simp [hf, hr, hst], _, by simp only [hf, hst, if_true]; rw [if_neg (by simp [hr])],
      updateRecord_is id _ s, updateRecord_only _ _ s⟩
  · refine ⟨countRemoved (dropRecord id s), by simp [hf, (removable_iff r.state).2 hst], ?_, ?_, fun b hb => ?_⟩
    · exact storeIs_congr (s := dropRecord id s) (putRecords_is _ s) rfl rfl rfl rfl rfl
    · simp [countRemoved]
    · cases b <;> simp at hb <;> simp [sameBlock, countRemoved]
  · have hn : removable r.state = false := by
      simp only [List.mem_cons, List.not_mem_nil, or_false] at hst
      rcases hst with hst | hst | hst | hst <;> simp [hst, removable]
    simp [hf, hn]

/-! ## ARRIVED -/

/-- The record that an arrival creates (R61, R75, R76). -/
def arrivedRecord (id : PackId) (p : PackData) (s : State) : PackRecord :=
  { id := id, data := p, state := if s.cfg.role = .chamber then .held else .ready }

/-- A record that an arrival creates: the store, and RECORD READY at a role other than CHAMBER (R61, R75). -/
theorem createArrived_is (id : PackId) (p : PackData) (s : State) :
    StoreIs { s.store with records := s.store.records ++ [arrivedRecord id p s] } (createArrived id p s)
      ∧ (createArrived id p s).port = (if s.cfg.role = .chamber then s.port else (raise .recordReady s).port)
      ∧ OnlyChanges [.store, .port] s (createArrived id p s) := by
  let w := joinRecord (arrivedRecord id p s) s
  have hs : StoreIs { s.store with records := s.store.records ++ [arrivedRecord id p s] } w := putRecords_is _ s
  have hw : OnlyChanges [.store, .port] s w := (putRecords_only _ s).mono (by decide)
  by_cases hr : s.cfg.role = .chamber
  · have e : createArrived id p s = w := if_pos hr
    rw [e, if_pos hr]
    exact ⟨hs, by simp [w], hw⟩
  · have e : createArrived id p s = raise .recordReady w := if_neg hr
    rw [e, if_neg hr]
    exact ⟨storeIs_congr hs (by simp) (by simp) (by simp) (by simp) (by simp), raise_port_congr _ (by simp [w]),
      hw.trans ((raise_only _ _).mono (by decide))⟩

/-- A TAKEN placed. -/
theorem placeTaken_is (n : Nat) (id : PackId) (o : Nat) (late : Bool) {s t : State} (hl : t.link = s.link)
    (hc : t.cfg = s.cfg) : (placeTaken n id o late t).link
      = (placeHandoff (.taken { head := headTo s n id o, late := late }) s).link := by
  have hh : headTo t n id o = headTo s n id o := by simp [headTo, hc]
  rw [placeTaken, hh]
  exact placeHandoff_link _ hl

/-- Settles O53, by the cases of R75 and R76 in their order. -/
theorem arrivalTaken : Obligations.ArrivalTaken := by
  intro tag id up s h
  have he : exec (.arrived tag id up) s = .next (if 31 < up.toNat then replyBad tag .parameter s
      else if s.cfg.role = .bay then replyRefused tag .role s
      else if (findRecord id s).isSome then replyRefused tag .duplicate (raise .unexpectedArrival s)
      else match findReservation id s with
        | some v => replyDone tag [] (matchedArrival v s)
        | none =>
          if 16 ≤ entriesHeld s then replyRefused tag .full (raise .unexpectedArrival s)
          else replyDone tag [] (unexpectedArrival id up.toNat s)) := take_ready h tag _
  rw [he]
  refine ⟨fun h1 => by rw [if_pos h1], fun h1 h2 => by rw [if_neg (by omega), if_pos h2], fun h1 h2 h3 => ?_,
    fun v h1 h2 h3 h4 => ?_, fun h1 h2 h3 h4 h5 => ?_, fun h1 h2 h3 h4 h5 => ?_⟩
  · rw [if_neg (by omega), if_neg h2, if_pos (by simpa [Option.isSome_iff_ne_none] using h3)]
  · have hid : v.packId = id := by simpa using List.find?_some h4
    subst hid
    let p := if newestPassed v.station v.pack then v.pack else addHistory v.station .passed v.pack
    let w := dropReservation v s
    let x := createArrived v.packId p w
    let u := countReceived (placeTaken v.station v.packId v.offerNumber false x)
    obtain ⟨g1, g2, g3⟩ := createArrived_is v.packId p w
    have hw : OnlyChanges [.store] s w := putReservations_only _ s
    rw [if_neg (by omega), if_neg h2, if_neg (by simp [h3])]
    simp only [h4]
    refine ⟨u, arrivedRecord v.packId p w, rfl, rfl, rfl, ?_, rfl, rfl, ?_, ?_, ?_, ?_, ?_⟩
    · show p = _
      simp only [p, newestPassed, decide_eq_true_eq]
    · exact storeIs_congr (s := x) g1 (by simp [u, countReceived]) (by simp [u, countReceived])
        (by simp [u, countReceived, placeTaken]) (by simp [u, countReceived]) (by simp [u, countReceived])
    · exact placeTaken_is _ _ _ _ (g3 .link (by decide)) (g3 .cfg (by decide))
    · have hx : x.tally = s.tally := g3 .tally (by decide)
      simp [u, countReceived, hx]
    · have hx : u.port = x.port := by simp [u, countReceived]
      have hw : (raise .recordReady w).port = (raise .recordReady s).port := raise_port_congr _ rfl
      rw [hx, g2, hw]
      rfl
    · refine (OnlyChanges.trans (hw.mono (by decide)) (g3.mono (by decide))).trans (fun b hb => ?_)
      cases b <;> simp at hb <;> simp [sameBlock, u, countReceived, x]
  · rw [if_neg (by omega), if_neg h2, if_neg (by simp [h3])]
    simp only [h4, if_pos h5]
  · let x := createArrived id (placeholderData s) s
    let y := if up.toNat = 0 then x else placeTaken up.toNat id 0 true x
    obtain ⟨g1, g2, g3⟩ := createArrived_is id (placeholderData s) s
    have hy : y.store = x.store ∧ y.zone = x.zone ∧ y.link.state = x.link.state ∧ y.atm = x.atm ∧ y.cfg = x.cfg
        ∧ y.tally = x.tally ∧ y.port = x.port ∧ OnlyChanges [.link] x y := by
      simp only [y]
      split
      · exact ⟨rfl, rfl, rfl, rfl, rfl, rfl, rfl, .refl _ x⟩
      · exact ⟨by simp, by simp, by simp [placeTaken], by simp, by simp, by simp, by simp, placeHandoff_only _ x⟩
    obtain ⟨k1, k2, k3, k4, k5, k6, k7, k8⟩ := hy
    have hx : x.link = s.link := g3 .link (by decide)
    rw [if_neg (by omega), if_neg h2, if_neg (by simp [h3])]
    simp only [h4, if_neg (by omega : ¬16 ≤ entriesHeld s)]
    refine ⟨countReceived y, arrivedRecord id (placeholderData s) s, rfl, rfl, rfl, rfl, ?_, fun hu => ?_, fun hu => ?_,
      ?_, ?_, ?_⟩
    · exact storeIs_congr g1 k1 (by rw [← k2]; rfl) k3 (by rw [← k4]; rfl) k5
    · rw [← hx]
      simp only [y, hu, if_true]
      rfl
    · simp only [y, if_neg hu]
      exact placeTaken_is _ _ _ _ hx (g3 .cfg (by decide))
    · have hx : y.tally = s.tally := k6.trans (g3 .tally (by decide))
      simp [countReceived, hx]
    · exact k7.trans g2
    · refine (OnlyChanges.trans (g3.mono (by decide)) (k8.mono (by decide))).trans (fun b hb => ?_)
      cases b <;> simp at hb <;> simp [sameBlock, countReceived]

/-! ## START -/

/-- A record bound for START: DISCHARGING, and the engine in CONNECT with its current (R90). -/
theorem bindRecord_is {r : PackRecord} {s : State} (h : findRecord r.id s = some r) :
    StoreIs { s.store with records := recordsWith r.id (·.into .discharging) s } (bindRecord r s)
      ∧ (bindRecord r s).engine = { s.engine with
          state := .connect
          contactor := true
          present := 0
          loadStep := 0
          bound := some r.id
          settleRun := 0
          zeroRun := 0
          unloadCount := 0
          restRun := 0
          purpose := none
          faultCause := none
          checkTimer := some 50
          iCmd := commandedCurrent s r.data
          target := targetStep s (commandedCurrent s r.data) }
      ∧ OnlyChanges [.store, .engine] s (bindRecord r s) := by
  let w := updateRecord r.id (·.into .discharging) s
  let u := onEngine (fun e => { (e.enter .connect).setPresent 0 with
    bound := some r.id
    settleRun := 0
    zeroRun := 0
    unloadCount := 0
    restRun := 0
    purpose := none
    faultCause := none
    checkTimer := some 50 }) w
  have hb : boundRecord u = some (r.into .discharging) :=
    boundRecord_is rfl (findRecord_update (s := s) h (·.into .discharging) (fun _ => rfl))
  have e : bindRecord r s = recomputeTarget u := rfl
  refine ⟨?_, ?_, fun b hb => ?_⟩
  · exact storeIs_congr (updateRecord_is r.id _ s) (by simp [e, u, w, onEngine]) (by simp [e, u, w, onEngine])
      (by simp [e, u, w, onEngine]) (by simp [e, u, w, onEngine]) (by simp [e, u, w, onEngine])
  · rw [e, recomputeTarget_engine hb, if_neg (by simp [u, onEngine, Engine.enter, Engine.setPresent])]
    rfl
  · cases b <;> simp at hb <;> simp [sameBlock, e, u, w, onEngine]

/-- Settles O54, by the rows of R89's table in their order. -/
theorem startBindsOldest : Obligations.StartBindsOldest := by
  intro tag s h
  have he : exec (.start tag) s = .next (if s.cfg.role ≠ .bay then replyRefused tag .role s
      else if s.start.phase = .listening then replyRefused tag .starting s
      else if startBusy s.engine.state then replyBusy tag s
      else if isAlarm s.zone.level then replyRefused tag .alarm s
      else if s.link.state = .clashed then replyRefused tag .clashed s
      else if s.engine.status = .lost then replyRefused tag .measurement s
      else if channelOut s 6 then replyRefused tag .hot s
      else startOldest tag s) := take_ready h tag _
  refine ⟨fun r hr => ?_, fun hr hp hst => ?_, fun u hr hp hz hl hm hc hu => ?_⟩
  · rw [he]
    rcases hr with ⟨hr, rfl⟩ | ⟨hr, ⟨hp, rfl⟩ | ⟨hp, hb, hrow⟩⟩
    · rw [if_pos hr]
    · rw [if_neg (by simp [hr]), if_pos hp]
    · rw [if_neg (by simp [hr]), if_neg (by simp [hp]), if_neg (by simp [hb])]
      rcases hrow with ⟨hz, rfl⟩ | ⟨hz, ⟨hl, rfl⟩ | ⟨hl, ⟨hm, rfl⟩ | ⟨hm, hc, rfl⟩⟩⟩
      · rw [if_pos hz]
      · rw [if_neg (by simp [hz]), if_pos hl]
      · rw [if_neg (by simp [hz]), if_neg (by simp [hl]), if_pos hm]
      · rw [if_neg (by simp [hz]), if_neg (by simp [hl]), if_neg hm, if_pos hc]
  · have hb : startBusy s.engine.state = true := by
      simp only [List.mem_cons, List.not_mem_nil, or_false] at hst
      rcases hst with hst | hst | hst | hst | hst | hst <;> simp [hst, startBusy]
    rw [he, if_neg (by simp [hr]), if_neg (by simp [hp]), if_pos hb]
  · have hb : startBusy s.engine.state = false ∧ (if s.engine.state = .fault then handBack s else s) = u := by
      rcases hu with ⟨hu | hu, rfl⟩ | ⟨hu, rfl⟩ <;> simp [hu, startBusy]
    have hsame : u.cfg = s.cfg ∧ u.bank = s.bank ∧ u.zone = s.zone := by
      rcases hu with ⟨-, rfl⟩ | ⟨-, rfl⟩ <;> simp
    obtain ⟨hcfg, hbank, hzone⟩ := hsame
    have hcur : ∀ p, commandedCurrent u p = commandedCurrent s p := fun p => by
      unfold commandedCurrent channelOut
      rw [hcfg, hbank, hzone]
    have ho : exec (.start tag) s = .next (startOldest tag s) := by
      rw [he, if_neg (by simp [hr]), if_neg (by simp [hp]), if_neg (by simp [hb.1]), if_neg (by simp [hz]),
        if_neg (by simp [hl]), if_neg hm, if_neg (by simp [hc])]
    refine ⟨fun hn => ?_, fun pre x post hsplit hpre hst hmk hi => ?_⟩
    · have hcand : startCandidate u = none := List.find?_eq_none.2 (fun x hx => by simp [hn x hx])
      rw [ho, startOldest, hb.2]
      simp only [hcand]
    · have hel : eligible u x = true := by simp [eligible, hst, hmk, hcfg, hi]
      have hcand : startCandidate u = some x := by
        rw [startCandidate, hsplit, List.find?_append, List.find?_eq_none.2 (fun y hy => by simp [(hpre y hy).1])]
        simp [hel]
      have hfind : findRecord x.id u = some x := by
        rw [findRecord, hsplit, List.find?_append, List.find?_eq_none.2 (fun y hy => by simp [(hpre y hy).2])]
        simp
      obtain ⟨g1, g2, g3⟩ := bindRecord_is hfind
      refine ⟨bindRecord x u, by rw [ho, startOldest, hb.2]; simp only [hcand], g1, ?_, g3⟩
      have hstep : ∀ i, targetStep u i = targetStep s i := fun i => by rw [targetStep, targetStep, hcfg]
      rw [g2, hcur, hstep]

/-! ## STOP -/

/-- Settles O55, by the state of the engine. -/
theorem stopHandsBack : Obligations.StopHandsBack := by
  intro tag s h
  have he : exec (.stop tag) s = .next (if s.cfg.role ≠ .bay then replyRefused tag .role s else stopEngine tag s) :=
    take_ready h tag _
  refine ⟨fun hr => by rw [he, if_pos hr], fun hr => ?_⟩
  rw [he, if_neg (by simp [hr])]
  refine ⟨fun hst => ?_, fun p hst hp => ?_, fun id r hst hb hf => ?_, fun hst => ?_, fun hst => ?_⟩
  · have hx : stopEngine tag s = replyDone tag [] (orderUnload (.handBack .stopped) s) := by
      simp only [List.mem_cons, List.not_mem_nil, or_false] at hst
      rcases hst with hst | hst | hst | hst <;> simp only [stopEngine, hst]
    rw [hx, orderUnload_is, ordered_loaded _ hst]
    rfl
  · have hx : stopEngine tag s = replyDone tag [] (orderUnload (.handBack .stopped) s) := by
      simp only [stopEngine, hst]
    rw [hx, orderUnload_is, Engine.ordered, if_neg (by simp [hst]), if_pos hst, hp]
    cases p <;> rfl
  · obtain ⟨h1, h2, h3, h4⟩ := handBack_is hb hr hf
    exact ⟨handBack s, by simp only [stopEngine, hst], h1, h2, h3, h4⟩
  · rcases hst with hst | hst <;> simp only [stopEngine, hst]
  · simp only [stopEngine, hst]

end Sys2Proof.Machine
end

section
/-! PROOF. The requests of the Atmosphere, Tally and Zone Units, obligations O56, O57 and O59. -/

namespace Sys2Proof.Machine

open Sys2Proof

set_option Elab.async false

/-! ## FEED, CONSUMED, WITHDRAW FEED -/

/-- The data byte of a NOT PERMITTED reply, by the conditions that fail (R143). -/
theorem notPermittedByte_is (marked : Bool) (s : State) : notPermittedByte marked s =
    (if atmosphereFeeds s = true then 0 else 1) + (if s.zone.level = .normal then 0 else 2)
      + (if marked = true then 4 else 0) := by
  unfold notPermittedByte bitNat
  by_cases h1 : atmosphereFeeds s = true <;> by_cases h2 : s.zone.level = .normal <;> cases marked <;> simp [h1, h2]

theorem feedConditions_iff (marked : Bool) (s : State) : feedConditions marked s = true ↔
    atmosphereFeeds s = true ∧ s.zone.level = .normal ∧ marked = false := by
  simp [feedConditions, and_assoc]

/-- The store of a record that begins FEEDING, and its permit (R144). -/
theorem beginFeed_is (r : PackRecord) (s : State) :
    StoreIs { s.store with records := recordsWith r.id (fun x =>
        (x.into .feeding).withData (addHistory s.cfg.station .fed)) s } (beginFeed r s)
      ∧ (beginFeed r s).atm = { s.atm with feedPermit := true, feedNote := some { packId := r.id, outcome := .feeding } }
      ∧ OnlyChanges [.store, .atm] s (beginFeed r s) :=
  ⟨storeIs_congr (updateRecord_is r.id _ s) rfl rfl rfl rfl rfl, rfl,
    fun b hb => by cases b <;> simp at hb <;> rfl⟩

/-- Settles O56, request by request, by the record that is FEEDING. -/
theorem feedingRequests : Obligations.FeedingRequests := by
  intro tag s h
  have hfe : exec (.feed tag) s = .next (if s.cfg.role ≠ .chamber then replyRefused tag .role s
      else if s.start.phase = .listening then replyRefused tag .starting s
      else if s.link.state = .clashed then replyRefused tag .clashed s
      else match feedingRecord s with
        | some r => feedAgain tag r s
        | none => feedNext tag s) := take_ready h tag _
  have hco : ∀ id, exec (.consumed tag id) s = .next (feedingOnly tag id consumeRecord s) := fun id => take_ready h tag _
  have hwi : ∀ id, exec (.withdrawFeed tag id) s = .next (feedingOnly tag id withdrawRecord s) :=
    fun id => take_ready h tag _
  refine ⟨fun hr => ⟨by rw [hfe, if_pos hr], fun id => ⟨?_, ?_⟩⟩, fun hr => ⟨fun hp => ?_, fun hp hl => ?_,
    fun hp hl => ?_, fun id c hc => ?_, fun id r hf hst => ?_⟩⟩
  · rw [hco, feedingOnly, if_pos hr]
  · rw [hwi, feedingOnly, if_pos hr]
  · rw [hfe, if_neg (by simp [hr]), if_pos hp]
  · rw [hfe, if_neg (by simp [hr]), if_neg (by simp [hp]), if_pos hl]
  · rw [if_neg (by simp [hr]), if_neg (by simp [hp]), if_neg (by simp [hl])] at hfe
    refine ⟨fun r hf => ?_, fun hf ho => ?_, fun r hf ho hm => ?_, fun r hf ho hm hx => ?_, fun r hf ho hm ha hz => ?_⟩
    · simp only [hf] at hfe
      rw [hfe, feedAgain]
      simp only [feedConditions_iff, replyNotPermitted, notPermittedByte_is]
      rfl
    · simp only [hf] at hfe
      rw [hfe, feedNext]
      simp only [ho]
    · simp only [hf] at hfe
      rw [hfe, feedNext]
      simp only [ho, hm, if_true]
    · simp only [hf] at hfe
      rw [hfe, feedNext]
      have hn : ¬feedConditions false s = true := by
        rw [feedConditions_iff]
        rintro ⟨h1, h2, -⟩
        rcases hx with hx | hx
        · simp [h1] at hx
        · exact hx h2
      simp only [ho, hm, Bool.false_eq_true, if_false, if_neg hn, replyNotPermitted, notPermittedByte_is]
      rfl
    · simp only [hf] at hfe
      refine ⟨beginFeed r s, ?_, beginFeed_is r s⟩
      have hy : feedConditions false s = true := (feedConditions_iff _ _).2 ⟨ha, hz, rfl⟩
      rw [hfe, feedNext]
      simp only [ho, hm, Bool.false_eq_true, if_false, hy, if_true]
  · have hcases : ∃ done, exec c s = .next (feedingOnly tag id done s) := by
      rcases hc with rfl | rfl
      · exact ⟨_, hco id⟩
      · exact ⟨_, hwi id⟩
    obtain ⟨done, hd⟩ := hcases
    rw [hd, feedingOnly, if_neg (by simp [hr])]
    refine ⟨fun hf hv => by simp [hf, hv], fun hx => ?_⟩
    rcases hx with ⟨r, hf, hst⟩ | ⟨hf, hv⟩
    · simp only [hf, if_neg hst]
    · simp only [hf, if_pos (by simpa [Option.isSome_iff_ne_none] using hv : (findReservation id s).isSome = true)]
  · have hid := findRecord_id hf
    subst hid
    have hd : ∀ done, feedingOnly tag r.id done s = replyDone tag [] (done r s) := fun done => by
      rw [feedingOnly, if_neg (by simp [hr])]
      simp only [hf, if_pos hst]
    rw [hco, hwi, hd, hd]
    let w := s.withAtm { s.atm with feedPermit := false }
    refine ⟨⟨dropRecord r.id w, _, rfl, ?_, rfl, fun b hb => ?_, rfl⟩, _, rfl, ?_, rfl, fun b hb => ?_⟩
    · exact putRecords_is _ w
    · cases b <;> simp at hb <;> rfl
    · exact storeIs_congr (updateRecord_is r.id _ w) rfl rfl rfl rfl rfl
    · cases b <;> simp at hb <;> rfl

/-! ## The counters and the lot -/

/-- An open lot closed (R177 to R180). -/
theorem closeLot_open {s : State} {lot : Lot} (r : CloseReason) (h : s.tally.openLot = some lot) :
    (closeLot r s).tally = { s.tally with
        openLot := none
        closedLots := ({ lot with closeReason := some r } :: s.tally.closedLots).take 4 }
      ∧ (closeLot r s).port = (raise .lotClosed s).port
      ∧ OnlyChanges [.tally, .port] s (closeLot r s) := by
  rw [closeLot_is]
  refine ⟨?_, ?_, fun b hb => by cases b <;> simp at hb <;> rfl⟩
  · simp [Tally.lotClosed, h]
  · simp [lotClosedPort, h]

/-- The tally with a consumed pack counted (R171, R174). -/
def Tally.withConsumed (residual : Nat) (t : Tally) : Tally :=
  { t with
    consumed :=
      if t.consumed.value < 4294967295 then { t.consumed with value := t.consumed.value + 1 }
      else { t.consumed with lost := true }
    consumedResidual := min (t.consumedResidual + residual) 18446744073709551615 }

/-- The tally with a pack in its open lot (R177). -/
def Tally.withPack (id : PackId) (residual : Nat) (lot : Lot) (t : Tally) : Tally :=
  { t.withConsumed residual with
    openLot := some { lot with packs := lot.packs ++ [id], residualSum := lot.residualSum + residual } }

/-- The tally with a new lot opened for a pack (R176). -/
def Tally.withNewLot (id : PackId) (residual : Nat) (s : State) : Tally :=
  { s.tally.withConsumed residual with
    openLot := some { number := s.tally.nextLot, packs := [id], residualSum := residual, peak := s.atm.effective
                      epoch := s.start.epoch.getD 0 }
    nextLot := lotAfter s.tally.nextLot }

/-- A pack consumed with a lot open. -/
theorem tallyConsumed_open (id : PackId) (residual : Nat) {s : State} {lot : Lot} (h : s.tally.openLot = some lot) :
    tallyConsumed id residual s =
      if 47 ≤ lot.packs.length then
        closeLot .full (s.withTally (s.tally.withPack id residual lot))
      else s.withTally (s.tally.withPack id residual lot) := by
  rw [tallyConsumed_is]
  simp only [h]
  rfl

/-- A pack consumed with no lot open. -/
theorem tallyConsumed_new (id : PackId) (residual : Nat) {s : State} (h : s.tally.openLot = none) :
    tallyConsumed id residual s =
      if isAlarm s.zone.level then closeLot .alarm (s.withTally (Tally.withNewLot id residual s))
      else if s.atm.state = .trip then closeLot .atmosphere (s.withTally (Tally.withNewLot id residual s))
      else s.withTally (Tally.withNewLot id residual s) := by
  rw [tallyConsumed_is]
  simp only [h]
  rfl

/-- Settles O57, by the open lot, its length and what stands against a new one. -/
theorem lotTakesPack : Obligations.LotTakesPack := by
  intro id residual s
  have hput : ∀ x : Tally, OnlyChanges [.tally, .port] s (s.withTally x) :=
    fun x b hb => by cases b <;> simp at hb <;> rfl
  refine ⟨?_, fun x hx => ?_, fun tag h => ?_⟩
  · cases ho : s.tally.openLot with
    | some lot =>
      rw [tallyConsumed_open id residual ho]
      split
      · exact (hput _).trans (closeLot_open .full rfl).2.2
      · exact hput _
    | none =>
      rw [tallyConsumed_new id residual ho]
      split
      · exact (hput _).trans (closeLot_open .alarm rfl).2.2
      · split
        · exact (hput _).trans (closeLot_open .atmosphere rfl).2.2
        · exact hput _
  · obtain rfl : x = s.tally.withConsumed residual := hx
    refine ⟨fun lot ho hl => ?_, fun lot ho hl => ?_, fun lot next ho hlot hnext => ⟨fun hz ha => ?_, fun r hr => ?_⟩⟩
    · rw [tallyConsumed_open id residual ho, if_neg (by omega)]
      exact ⟨rfl, rfl⟩
    · rw [tallyConsumed_open id residual ho, if_pos hl]
      obtain ⟨h1, h2, -⟩ := closeLot_open .full (s := s.withTally (s.tally.withPack id residual lot)) rfl
      exact ⟨h1, h2.trans (raise_port_congr _ rfl)⟩
    · rw [tallyConsumed_new id residual ho, if_neg (by simp [hz]), if_neg ha, hlot, hnext]
      exact ⟨rfl, rfl⟩
    · have hc : tallyConsumed id residual s = closeLot r (s.withTally (Tally.withNewLot id residual s)) := by
        rw [tallyConsumed_new id residual ho]
        rcases hr with ⟨hz, rfl⟩ | ⟨hz, ha, rfl⟩
        · rw [if_pos hz]
        · rw [if_neg (by simp [hz]), if_pos ha]
      obtain ⟨h1, h2, -⟩ := closeLot_open r (s := s.withTally (Tally.withNewLot id residual s)) rfl
      rw [hc, hlot, hnext]
      exact ⟨h1, h2.trans (raise_port_congr _ rfl)⟩
  · have he : exec (.closeLot tag) s = .next (if s.cfg.role ≠ .chamber then replyRefused tag .role s
        else match s.tally.openLot with
          | none => replyRefused tag .none s
          | some l => replyDone tag [b2 l.number] (closeLot .command s)) := take_ready h tag _
    refine ⟨fun hr => by rw [he, if_pos hr], fun hr ho => ?_, fun lot hr ho => ⟨closeLot .command s, ?_, closeLot_open _ ho⟩⟩
    · rw [if_neg (by simp [hr])] at he
      simp only [ho] at he
      exact he
    · rw [if_neg (by simp [hr])] at he
      simp only [ho] at he
      exact he

/-! ## Strict -/

/-- What the rising evaluation leaves of the Zone Unit: the strict sources stand, and the level does not fall. -/
theorem RisingEvaluated.keeps {s t : State} (h : RisingEvaluated s t) :
    t.zone.strictCommand = s.zone.strictCommand ∧ t.zone.grade2 = s.zone.grade2 ∧ t.zone.hot = s.zone.hot
      ∧ t.zone.ownStrict = s.zone.ownStrict ∧ t.zone.strictInForce = s.zone.strictInForce
      ∧ levelRank s.zone.level ≤ levelRank t.zone.level := by
  have hd : Demands s (demanded s) := (demands_iff s _).2 rfl
  by_cases hlow : levelRank s.zone.level < levelRank (demanded s)
  · obtain ⟨c, flag, -, -, hc⟩ := h.rises _ hd hlow
    have hz := hc.zone
    refine ⟨by rw [hz], by rw [hz], by rw [hz], by rw [hz], by rw [hz], ?_⟩
    rw [hz]
    by_cases he : demanded s = .alarmConfirmed
    · have h3 : 3 ≤ levelRank (confirmedLevel s) := by unfold confirmedLevel; split <;> decide
      have h4 : levelRank (demanded s) = 3 := by rw [he]; rfl
      simp only [he, if_true]
      omega
    · simp only [if_neg he]
      omega
  · by_cases hp : s.zone.level = .prealarm ∧ s.zone.testFlag = true ∧ ∃ a, RealSet s a
    · rw [h.turnsReal _ hd (by omega) hp.1 hp.2.1 hp.2.2]
      simp
    · rw [h.stays _ hd (by omega) hp]
      simp

/-- What a change of a source leaves of the Zone Unit: the sources stand, the own strict request and strict in force follow
them, and the level does not fall (R150, R151). -/
theorem StrictTaken.keeps {s t : State} (h : StrictTaken s t) :
    t.zone.strictCommand = s.zone.strictCommand ∧ t.zone.grade2 = s.zone.grade2 ∧ t.zone.hot = s.zone.hot
      ∧ (t.zone.ownStrict = true ↔
          s.zone.strictCommand = true ∨ 0 < s.zone.grade2 ∨ 0 < s.zone.hot ∨ s.bank.healthy < 2)
      ∧ (t.zone.strictInForce = true ↔
          t.zone.ownStrict = true ∨ ∃ n, stationOk n = true ∧ isMember s n = true ∧ (s.peer n).effectiveStrict = true)
      ∧ levelRank s.zone.level ≤ levelRank t.zone.level
      ∧ (t.zone.strictInForce = s.zone.strictInForce → t = { s with
          zone := { s.zone with ownStrict := t.zone.ownStrict, strictInForce := t.zone.strictInForce } }) := by
  obtain ⟨u, hu, hsame, hrise⟩ := h
  have hz : u.zone = { s.zone with ownStrict := u.zone.ownStrict, strictInForce := u.zone.strictInForce } := by
    have h := congrArg State.zone hu.others
    exact h
  by_cases he : u.zone.strictInForce = s.zone.strictInForce
  · rw [hsame he]
    exact ⟨by rw [hz], by rw [hz], by rw [hz], hu.own, hu.inForce, by rw [hz], fun _ => hu.others⟩
  · obtain ⟨h1, h2, h3, h4, h5, h6⟩ := (hrise he).keeps
    refine ⟨h1.trans (by rw [hz]), h2.trans (by rw [hz]), h3.trans (by rw [hz]), by rw [h4]; exact hu.own,
      by rw [h4, h5]; exact hu.inForce, le_trans (by rw [hz]) h6, fun hx => absurd (h5.symm.trans hx) he⟩

/-- A change of a source touches the Zone Unit and what it hands its level to. -/
theorem strictChanged_only (s : State) :
    OnlyChanges [.zone, .link, .engine, .store, .atm, .tally, .port] s (strictChanged s) :=
  fun b hb => by cases b <;> simp at hb <;> simp [sameBlock]

/-! ## RESET ZONE and RESTORE ZONE -/

theorem anyDetectorSet_iff (s : State) : anyDetectorSet s = true ↔ ∃ n, 1 ≤ n ∧ n ≤ 4 ∧ channelOut s n = true := by
  have h := setDetectors_isEmpty s
  unfold AnySet at h
  unfold anyDetectorSet
  cases he : (setDetectors s).isEmpty
  · simp [he] at h ⊢
    exact h
  · simp [he] at h ⊢
    exact h

theorem memberInAlarm_iff (s : State) : memberInAlarm s = true ↔
    ∃ n, stationOk n = true ∧ isMember s n = true ∧ (s.peer n).admission = .admitted ∧ (s.peer n).step = .inStep
      ∧ isAlarm (s.peer n).effectiveLevel = true := by
  simp [memberInAlarm, mem_members, PeerEntry.followed, and_assoc]

/-- The fall to NORMAL: the level, its note, and all that follows from it (R161, R165). -/
theorem fallToNormal_is (s : State) :
    (fallToNormal s).zone = { s.zone with
        level := .normal
        testFlag := false
        countdown := false
        releaseCount := 0
        endDue := false
        note := some { level := .normal, testFlag := false, cause := s.zone.cause, origin := .own } }
      ∧ (s.link.state = .active → (fallToNormal s).link.alarmSlot = some
          { station := s.cfg.station, zone := s.cfg.zone, level := .normal, testFlag := false
            cause := s.zone.cause.getD .heat })
      ∧ StoreIs s.store (fallToNormal s)
      ∧ (contactorClosed s.engine.state = false → (fallToNormal s).engine = s.engine)
      ∧ (fallToNormal s).port = (raise .zoneChange s).port
      ∧ OnlyChanges [.zone, .link, .store, .engine, .port] s (fallToNormal s) := by
  have h : LevelChanged .normal false s.zone.cause .own s (fallToNormal s) := changeLevel_is ..
  have hn : ¬risesToAlarm s.zone.level .normal := fun x => absurd x.2 (by decide)
  obtain ⟨hz, hl, he, hst, ha, ht, hp, ho⟩ := h
  rw [if_neg hn] at hl he hst ht hp
  rw [if_neg (by decide)] at he
  rw [if_pos rfl] at ha
  refine ⟨?_, fun hx => ?_, hst, fun hx => ?_, hp.trans (raise_port_congr _ rfl), fun b hb => ?_⟩
  · rw [hz]
    simp
  · rw [hl]
    simp only [placedAll, List.foldl_nil, Link.withAlarm, hx, alarmFrameOf]
  · rw [he]
    unfold retargeted
    cases hst : s.engine.state <;> simp [hst, contactorClosed] at hx ⊢ <;> split <;> rfl
  · have h := ho b
    cases b
    case atm => exact ha
    case tally => exact ht
    all_goals simp at hb
    all_goals exact h (by decide)

/-- Settles O59: the command source, and the cases of R163 and R164 in their order. -/
theorem zoneRequestsTaken : Obligations.ZoneRequestsTaken := by
  intro tag s h
  have hre : exec (.resetZone tag) s = .next (if isAlarm s.zone.level = false then replyRefused tag .notInAlarm s
      else if s.zone.level = .released then replyRefused tag .released s
      else if s.zone.isolationLatch then replyRefused tag .electrical s
      else if anyDetectorSet s then replyRefused tag .active s
      else if s.zone.cause = some .peer ∧ memberInAlarm s = true then replyRefused tag .peer s
      else replyDone tag [] (fallToNormal s)) := take_ready h tag _
  have hrs : exec (.restoreZone tag) s = .next (if s.zone.level ≠ .released then replyRefused tag .notReleased s
      else if channelOut s 9 = false then replyRefused tag .key s
      else if s.zone.isolationLatch then replyRefused tag .electrical s
      else if anyDetectorSet s then replyRefused tag .active s
      else replyDone tag [] (fallToNormal (s.withZone { s.zone with suppression := false }))) := take_ready h tag _
  have hnone : (∀ n, 1 ≤ n → n ≤ 4 → channelOut s n = false) → ¬anyDetectorSet s = true := by
    intro hx hy
    obtain ⟨n, h1, h2, h3⟩ := (anyDetectorSet_iff s).1 hy
    rw [hx n h1 h2] at h3
    cases h3
  refine ⟨fun on => ?_, fun r hr => ?_, fun r hr => ?_, fun c hlatch hdet hc => ?_⟩
  · have he : exec (if on then .strictOn tag else .strictOff tag) s = .next (replyDone tag [] (strictCommand on s)) := by
      cases on <;> exact take_ready h tag _
    refine ⟨_, he, (strictChanged_is _).keeps.1, ?_⟩
    exact OnlyChanges.trans (t := s.withZone { s.zone with strictCommand := on })
      (fun b hb => by cases b <;> simp at hb <;> rfl) (strictChanged_only _)
  · rw [hre]
    rcases hr with ⟨hl, rfl⟩ | ⟨hl, rfl⟩ | ⟨hl, hne, hr⟩
    · rw [if_pos (by simpa [isAlarm] using hl)]
    · rw [if_neg (by simp [hl, isAlarm, levelRank]), if_pos hl]
    · rw [if_neg (by simp [isAlarm]; omega), if_neg hne]
      rcases hr with ⟨hlatch, rfl⟩ | ⟨hlatch, ⟨hd, rfl⟩ | ⟨hd, hp, hm, rfl⟩⟩
      · rw [if_pos hlatch]
      · rw [if_neg (by simp [hlatch]), if_pos ((anyDetectorSet_iff s).2 hd)]
      · rw [if_neg (by simp [hlatch]), if_neg (hnone hd), if_pos ⟨hp, (memberInAlarm_iff s).2 hm⟩]
  · rw [hrs]
    rcases hr with ⟨hl, rfl⟩ | ⟨hl, ⟨hk, rfl⟩ | ⟨hk, ⟨hlatch, rfl⟩ | ⟨hlatch, hd, rfl⟩⟩⟩
    · rw [if_pos hl]
    · rw [if_neg (by simp [hl]), if_pos hk]
    · rw [if_neg (by simp [hl]), if_neg (by simp [hk]), if_pos hlatch]
    · rw [if_neg (by simp [hl]), if_neg (by simp [hk]), if_neg (by simp [hlatch]), if_pos ((anyDetectorSet_iff s).2 hd)]
  · rcases hc with ⟨rfl, hl, hne, hp⟩ | ⟨rfl, hl, hk⟩
    · have hpeer : ¬(s.zone.cause = some .peer ∧ memberInAlarm s = true) := by
        rintro ⟨hx, hy⟩
        obtain ⟨n, -, h2, h3, h4, h5⟩ := (memberInAlarm_iff s).1 hy
        rw [hp hx n h2 h3 h4] at h5
        cases h5
      rw [hre, if_neg (by simp [isAlarm]; omega), if_neg hne, if_neg (by simp [hlatch]), if_neg (hnone hdet),
        if_neg hpeer]
      obtain ⟨h1, h2, h3, h4, h5, h6⟩ := fallToNormal_is s
      exact ⟨_, rfl, by rw [h1, if_neg hne], h2, h3, h4, h5, h6⟩
    · rw [hrs, if_neg (by simp [hl]), if_neg (by simp [hk]), if_neg (by simp [hlatch]), if_neg (hnone hdet)]
      let u := s.withZone { s.zone with suppression := false }
      obtain ⟨h1, h2, h3, h4, h5, h6⟩ := fallToNormal_is u
      refine ⟨_, rfl, by rw [h1, if_pos hl]; rfl, h2, h3, h4, h5.trans (raise_port_congr _ rfl), ?_⟩
      exact OnlyChanges.trans (t := u) (fun b hb => by cases b <;> simp at hb <;> rfl) h6

end Sys2Proof.Machine
end

section
/-! PROOF. The sample timer expiry and strict in force, obligations O34 and O58. -/

namespace Sys2Proof.Machine

open Sys2Proof

set_option Elab.async false

/-! ## A sample timer expiry, part by part -/

/-- The state as a sample timer expiry has taken its inputs. -/
def withInputs (contacts : Contacts) (s : State) : State :=
  judgeSensors ((onEngine Engine.tick s).withBank { takeSampleSet s.bank with contacts := contacts })

/-- The state as the Zone Unit takes a sample timer expiry. -/
def zoneSampled (contacts : Contacts) (s : State) : State := zoneHandover (evaluateAll (withInputs contacts s))

/-- The state as the Discharge Engine takes a sample timer expiry. -/
def atmosphereSampled (contacts : Contacts) (s : State) : State := atmosphereHandover (zoneSampled contacts s)

theorem sampleExpiry_eq (contacts : Contacts) (s : State) : sampleExpiry contacts s =
    engineExpiry s.engine.state (channelOut s 5) (channelOut s 6) s.bank.arrived.isSome
      (atmosphereSampled contacts s) := rfl

/-- At a role other than BAY the engine takes nothing of a sample timer expiry (R87). -/
theorem sampleExpiry_elsewhere (contacts : Contacts) {s : State} (h : s.cfg.role ≠ .bay) :
    sampleExpiry contacts s = atmosphereSampled contacts s := by
  rw [sampleExpiry_eq, engineExpiry, if_neg]
  simpa [atmosphereSampled, zoneSampled, withInputs] using h

/-- The bank after an expiry is that of its evaluation. -/
theorem sampleExpiry_bank (contacts : Contacts) (s : State) :
    (sampleExpiry contacts s).bank = (evaluateAll (withInputs contacts s)).bank := by
  simp [sampleExpiry_eq, atmosphereSampled, zoneSampled]

/-- A sample timer expiry while the timer runs. -/
theorem exec_sampleTimer (contacts : Contacts) {s : State} (h : Ready s) (ht : s.bank.sampleTimer = true) :
    exec (.sampleTimerExpiry contacts) s = .next (sampleExpiry contacts s) :=
  (next_whenActive h _).trans (by rw [if_pos ht])

/-- The fresh reading of an expiry, from the set that waited (R97). -/
theorem freshReading_is {s t : State} (hc : ∀ y, s.bank.arrived = some y → t.bank.current = some y) :
    freshReading s.bank.arrived.isSome t = s.bank.arrived.bind (fun a => a.v.bind (fun vv => a.i.bind (fun ii =>
      a.t.map (fun tt => ({ v := vv, i := ii, t := tt } : Reading))))) := by
  cases ha : s.bank.arrived with
  | none => rfl
  | some y =>
    have hy := hc y ha
    simp only [freshReading, measured, hy, Option.isSome_some, if_true, Option.bind_some]
    cases y.v <;> cases y.i <;> cases y.t <;> rfl

/-- Settles O34: the arrival of a set, and the expiry by its parts. -/
theorem sampleSetsTaken : Obligations.SampleSetsTaken := by
  refine ⟨fun bs stray s h => (next_whenActive h _).trans ?_, fun contacts s h ht => ?_⟩
  · simp only [completeSet, decide_eq_true_eq]
    rfl
  · have hi : InputsTaken contacts s (withInputs contacts s) := inputs_is contacts s
    have hv : ChannelsEvaluated (withInputs contacts s) (evaluateAll (withInputs contacts s)) := evaluateAll_is _
    have hb := sampleExpiry_bank contacts s
    have hbank := hv.bank
    have hcur : ∀ y, s.bank.arrived = some y → (sampleExpiry contacts s).bank.current = some y
        ∧ (sampleExpiry contacts s).bank.missing = 0 := by
      intro y hy
      rw [hb, hbank, hi.fresh y hy]
      exact ⟨rfl, rfl⟩
    have hkeep : (sampleExpiry contacts s).bank.contacts = contacts ∧ (sampleExpiry contacts s).bank.arrived = none
        ∧ (sampleExpiry contacts s).bank.sampleTimer = true := by
      rw [hb, hbank]
      cases ha : s.bank.arrived with
      | some y => rw [hi.fresh y ha]; exact ⟨rfl, rfl, ht⟩
      | none => rw [hi.reused ha]; exact ⟨rfl, ha, ht⟩
    refine ⟨withInputs contacts s, _, zoneSampled contacts s, atmosphereSampled contacts s, _,
      exec_sampleTimer contacts h ht, hi, hv, zoneHandover_is _, atmosphereHandover_is _,
      sampleExpiry_elsewhere contacts, fun fresh hr hf => ?_, hb, hkeep.1, hkeep.2.1, hkeep.2.2, hcur, fun ha => ?_,
      fun b hb => ?_⟩
    · have hrole : (atmosphereSampled contacts s).cfg.role = .bay := by
        simpa [atmosphereSampled, zoneSampled, withInputs] using hr
      have hx : (atmosphereSampled contacts s).bank = (sampleExpiry contacts s).bank := by
        simp [sampleExpiry_eq]
      rw [hf, ← freshReading_is (t := atmosphereSampled contacts s) (fun y hy => by rw [hx]; exact (hcur y hy).1)]
      exact engineExpiry_is _ _ _ _ hrole
    · rw [hb, hbank, hi.reused ha]
      exact ⟨rfl, rfl⟩
    · cases b <;> simp at hb <;> simp [sameBlock, sampleExpiry_eq, atmosphereSampled, zoneSampled, withInputs, onEngine]

/-! ## Strict in force -/

/-- Settles O58: the command, a record that leaves, and the sources at a sample timer expiry. -/
theorem strictSources : Obligations.StrictSources := by
  refine ⟨fun tag on s h => ?_, fun tag id r s h hr hf hst => ?_, fun contacts s h ht => ?_⟩
  · have he : exec (if on then .strictOn tag else .strictOff tag) s = .next (replyDone tag [] (strictCommand on s)) := by
      cases on <;> exact take_ready h tag _
    have hs : StrictTaken { s with zone := { s.zone with strictCommand := on } } (strictCommand on s) :=
      strictChanged_is _
    obtain ⟨h1, h2, h3, h4, h5, h6, h7⟩ := hs.keeps
    refine ⟨_, he, hs, h1, h2, h3, h4, h5.trans ?_, h6, h7⟩
    exact or_congr_right (exists_congr fun n => and_left_comm)
  · have he : exec (.consumed tag id) s = .next (replyDone tag [] (consumeRecord r s)) := by
      have hx : exec (.consumed tag id) s = .next (feedingOnly tag id consumeRecord s) := take_ready h tag _
      rw [hx, feedingOnly, if_neg (by simp [hr])]
      simp only [hf, if_pos hst]
    have hid := findRecord_id hf
    subst hid
    let w := s.withAtm { s.atm with feedPermit := false }
    refine ⟨dropRecord r.id w, _, _, he, putRecords_is _ w, rfl, fun b hb => ?_, zoneTakesStore_is _, rfl, ?_⟩
    · cases b <;> simp at hb <;> rfl
    · simp [consumeRecord, feedNote, w]
  · refine ⟨withInputs contacts s, _, zoneSampled contacts s, _, exec_sampleTimer contacts h ht, inputs_is contacts s,
      evaluateAll_is _, zoneHandover_is _, fun hr => ?_⟩
    rw [sampleExpiry_elsewhere contacts hr]
    simp [atmosphereSampled]

end Sys2Proof.Machine
end

section
/-! PROOF. The commands of the start, obligations O18 and O19. -/

namespace Sys2Proof.Machine

open Sys2Proof

set_option Elab.async false

/-! ## The configuration line -/

/-- The tries made are those up to the first that is acknowledged. -/
theorem triesMade_eq (acks : List Bool) : triesMade acks = triesOf (fun k => acks.getD k false) := by
  rcases acks with - | ⟨_ | _, - | ⟨_ | _, l⟩⟩ <;> rfl

/-- The state with transactions joined to those made. -/
def withTransactions (l : List LineTransaction) (s : State) : State :=
  { s with start := { s.start with transactions := s.start.transactions ++ l } }

/-- The transactions of a step, where `f` tells which of its tries were acknowledged (R197, log entry 43). -/
theorem makeTransactions_is {α : Type} (address : Nat) (written : List Byte) (read : Nat) (f : Option α → Bool)
    (tries : List (Option α)) (hf : f none = false) (s : State) :
    makeTransactions (transaction address written read) (tries.map f) s
      = withTransactions (lineTries (beBytes 2 address ++ written) read (fun k => f (tries.getD k none))) s := by
  have h : (fun k => (tries.map f).getD k false) = fun k => f (tries.getD k none) := by
    funext k
    rw [← hf, List.getD_map]
  rw [makeTransactions, triesMade_eq, h]
  rfl

/-! ## CONFIGURATION READ -/

/-- The state as its block's transactions have been made. -/
def blockAsked (tries : List (Option (List Byte))) (s : State) : State :=
  withTransactions (lineTries [0, 0] 564 (fun k => (tries.getD k none).any (fun b => decide (b.length = 564)))) s

/-- The state with the check of its block stored. -/
def checkStored (b : List Byte) (s : State) : State :=
  s.withStart { s.start with storedCheck := some (storedCheckOf b) }

theorem blockAnswer_isSome (a : Option (List Byte)) :
    (blockAnswer a).isSome = a.any (fun b => decide (b.length = 564)) := by
  cases a with
  | none => rfl
  | some b => by_cases h : b.length = 564 <;> simp [blockAnswer, Option.filter, blockLength, h]

/-- A configuration read, as its block fails to come, fails a check, or passes. -/
theorem configurationRead_eq (tries : List (Option (List Byte))) (s : State) :
    configurationRead tries s = match readBlock tries with
      | none => safeHalt .memory (blockAsked tries s)
      | some b =>
        match checkBlock b with
        | some f => safeHalt f ((checkStored b (blockAsked tries s)).withCfg { s.cfg with curves := curvesHeld b f })
        | none => takeConfiguration (readSettings b) (checkStored b (blockAsked tries s)) := by
  have h : makeTransactions (transaction blockAddress [] blockLength) (tries.map (fun a => (blockAnswer a).isSome)) s
      = blockAsked tries s := by
    rw [makeTransactions_is blockAddress [] blockLength (fun a => (blockAnswer a).isSome) tries rfl s]
    simp only [blockAnswer_isSome]
    rfl
  unfold configurationRead
  dsimp only
  rw [h]
  rfl

/-- SAFE HALT: the phase, the failing field, and PEER CHANGE raised (R201). -/
theorem safeHalt_is (f : Failing) (s : State) :
    (safeHalt f s).start = { s.start with phase := .safeHalt, failing := some f }
      ∧ (safeHalt f s).cfg = s.cfg ∧ (safeHalt f s).port = (raise .peerChange s).port
      ∧ OnlyChanges [.start, .port] s (safeHalt f s) :=
  ⟨by simp [safeHalt], by simp [safeHalt], raise_port_congr _ rfl,
    fun b hb => by cases b <;> simp at hb <;> simp [sameBlock, safeHalt]⟩

/-- The curves held in SAFE HALT, one by one (R114, log entry 44). -/
theorem curvesHeld_at (b : List Byte) (f : Failing) (k : Fin 4) :
    (curvesHeld b f)[k] = if k.val < curvesReached f then readCurve b k.val else {} := by
  simp [curvesHeld]

/-- The configuration taken by the blocks (R195, R198). -/
theorem takeConfiguration_is (c : Settings) (s : State) :
    (takeConfiguration c s).cfg = c ∧ (takeConfiguration c s).start = { s.start with configTaken := true }
      ∧ (takeConfiguration c s).peers = { s.peers with mode := c.admissionMode }
      ∧ StoreIs s.store (takeConfiguration c s)
      ∧ (takeConfiguration c s).port = { s.port with
          kindMasks := c.kindMasks, channelMasks := c.channelMasks, attention := attentionOf s.port.counts c.kindMasks }
      ∧ OnlyChanges [.start, .cfg, .peers, .store, .port] s (takeConfiguration c s) :=
  ⟨rfl, rfl, rfl, rfl, rfl, fun b hb => by cases b <;> simp at hb <;> rfl⟩

/-- Settles O18: the reset, and the configuration read by what its block gives. -/
theorem configurationTakenOrHalted : Obligations.ConfigurationTakenOrHalted := by
  refine ⟨fun _ => rfl, fun tries s hp hc x hx => ⟨configurationRead tries s, if_pos ⟨hp, hc⟩, fun hb => ?_,
    fun b f hb hf => ?_, fun b hb hf => ?_⟩⟩
  · have e : configurationRead tries s = safeHalt .memory (blockAsked tries s) := by
      rw [configurationRead_eq, hb]
    obtain ⟨h1, -, h3, h4⟩ := safeHalt_is .memory (blockAsked tries s)
    rw [e, hx]
    exact ⟨OnlyChanges.trans (t := blockAsked tries s) (fun b hb => by cases b <;> simp at hb <;> rfl) h4,
      h3.trans (raise_port_congr _ rfl), h1⟩
  · let u := (checkStored b (blockAsked tries s)).withCfg { s.cfg with curves := curvesHeld b f }
    have e : configurationRead tries s = safeHalt f u := by
      rw [configurationRead_eq, hb]
      simp only [hf]
      rfl
    obtain ⟨h1, h2, h3, h4⟩ := safeHalt_is f u
    have hk : ∀ k : Fin 4, (safeHalt f u).cfg.curves[k] = if k.val < curvesReached f then readCurve b k.val else {} := by
      rw [h2]
      exact curvesHeld_at b f
    rw [e, hx]
    refine ⟨?_, h3.trans (raise_port_congr _ rfl), h1, by rw [h2]; rfl, ?_, ?_, ?_, ?_, ?_⟩
    · exact OnlyChanges.trans (t := u) (fun b hb => by cases b <;> simp at hb <;> rfl) (h4.mono (by decide))
    · rintro rfl k
      rw [hk]
      exact if_neg (Nat.not_lt_zero _)
    · rintro j rfl k
      rw [hk]
      rfl
    · rintro g i rfl hg k
      have hr : curvesReached (.range g i) = 0 := if_pos hg
      rw [hk, hr, if_neg (Nat.not_lt_zero _)]
    · rintro g i rfl hg k
      have hr : curvesReached (.range g i) = 4 := by
        have h1 : g ∉ beforeCurves := fun h => hg (by simp only [beforeCurves] at h; simp only [List.mem_cons] at h ⊢; tauto)
        have h2 : g ≠ .curve := fun h => hg (by simp [h])
        rw [curvesReached, if_neg h1, if_neg h2]
      rw [hk, hr, if_pos k.isLt]
    · rintro g i rfl k
      rw [hk]
      exact if_pos k.isLt
  · let u := checkStored b (blockAsked tries s)
    have e : configurationRead tries s = takeConfiguration (readSettings b) u := by
      rw [configurationRead_eq, hb]
      simp only [hf]
      rfl
    obtain ⟨h1, h2, h3, h4, h5, h6⟩ := takeConfiguration_is (readSettings b) u
    rw [e, hx]
    exact ⟨OnlyChanges.trans (t := u) (fun b hb => by cases b <;> simp at hb <;> rfl) h6, h1, h2, h3, h4, h5⟩

/-! ## EPOCH WRITE -/

theorem nextEpoch_some {tries : List (Option Byte)} {b : Byte} (h : firstAck tries = some b) :
    nextEpoch tries = (b.toNat + 1) % 256 := by
  simp [nextEpoch, h]

theorem nextEpoch_none {tries : List (Option Byte)} (h : firstAck tries = none) : nextEpoch tries = 1 := by
  simp [nextEpoch, h]

/-- The transactions of the epoch step (R197, R199, log entry 43). -/
theorem epochTransactions_is (e : Nat) (reads : List (Option Byte)) (acks : List Bool) (backs : List (Option Byte))
    (s : State) : epochTransactions e reads acks backs s = s.withStart { s.start with
      transactions := s.start.transactions
        ++ lineTries [3, 255] 1 (fun k => (reads.getD k none).isSome)
        ++ lineTries [3, 255, BitVec.ofNat 8 e] 0 (fun k => acks.getD k false)
        ++ lineTries [3, 255] 1 (fun k => (backs.getD k none).isSome) } := by
  have hr : ∀ (l : List (Option Byte)) (u : State),
      makeTransactions (transaction epochAddress [] 1) (l.map (fun a => a.isSome)) u
        = withTransactions (lineTries [3, 255] 1 (fun k => (l.getD k none).isSome)) u :=
    fun l u => makeTransactions_is epochAddress [] 1 (fun a : Option Byte => a.isSome) l rfl u
  have hw : ∀ u : State, makeTransactions (transaction epochAddress [BitVec.ofNat 8 e] 0) acks u
      = withTransactions (lineTries [3, 255, BitVec.ofNat 8 e] 0 (fun k => acks.getD k false)) u := by
    intro u
    rw [makeTransactions, triesMade_eq]
    rfl
  unfold epochTransactions
  dsimp only
  rw [hr, hw, hr]
  rfl

/-- Entry into LISTENING from a link at its start values: the phase, the timers and the JOIN (R200). -/
theorem enterListening_starts {s : State} (h : s.link = {}) (y : Start) : enterListening (s.withStart y) = { s with
    start := { y with phase := .listening }
    peers := { s.peers with periodTimer := true }
    bank := { s.bank with sampleTimer := true }
    link := { s.link with
      joinSlot := some
        { station := s.cfg.station, role := s.cfg.role, zone := s.cfg.zone, periodCode := s.cfg.periodCode,
          epoch := y.epoch.getD 0, uniqueId := s.uniqueId } } } := by
  have hl : (timersStarted (s.withStart y)).link = s.link := rfl
  rw [enterListening_is, placeJoin_is, hl]
  simp only [h]
  rfl

/-- The Start Unit as the epoch step leaves it, up to the phase (R199). -/
def epochTaken (e : Nat) (reads : List (Option Byte)) (acks : List Bool) (backs : List (Option Byte)) (y : Start) :
    Start :=
  { y with
    epoch := some e
    outcome := some (if epochWritten e acks backs then .written else .failed)
    transactions := y.transactions
      ++ lineTries [3, 255] 1 (fun k => (reads.getD k none).isSome)
      ++ lineTries [3, 255, BitVec.ofNat 8 e] 0 (fun k => acks.getD k false)
      ++ lineTries [3, 255] 1 (fun k => (backs.getD k none).isSome) }

/-- The epoch step, by the outcome of the write. -/
theorem epochStep_eq (reads : List (Option Byte)) (acks : List Bool) (backs : List (Option Byte)) (s : State) :
    epochStep reads acks backs s =
      if epochWritten (nextEpoch reads) acks backs then
        enterListening (s.withStart (epochTaken (nextEpoch reads) reads acks backs s.start))
      else peerChange .epochWrite s.cfg.station
        (enterListening (s.withStart (epochTaken (nextEpoch reads) reads acks backs s.start))) := by
  unfold epochStep
  dsimp only
  rw [epochTransactions_is]
  rfl

/-- Settles O19, by the outcome of the write. -/
theorem epochWriteBeginsListening : Obligations.EpochWriteBeginsListening := by
  intro reads acks backs s hp hc hin
  have hex : exec (.epochWrite reads acks backs) s = .next (epochStep reads acks backs s) := if_pos ⟨hp, hc⟩
  refine ⟨nextEpoch reads, _, hex, fun b hb => nextEpoch_some hb, nextEpoch_none, ?_⟩
  rw [epochStep_eq, enterListening_starts hin.link]
  cases ho : epochWritten (nextEpoch reads) acks backs with
  | true =>
    refine ⟨?_, rfl, rfl, fun _ => ⟨rfl, rfl⟩, nofun, fun b hb => by cases b <;> simp at hb <;> rfl⟩
    simp only [epochTaken, ho, if_true]
  | false =>
    refine ⟨?_, rfl, rfl, nofun, fun _ => ⟨rfl, raise_port_congr _ rfl⟩, fun b hb => ?_⟩
    · simp only [epochTaken, ho, Bool.false_eq_true, if_false]
      rfl
    · cases b <;> simp at hb <;> rfl

end Sys2Proof.Machine
end

section
/-! PROOF. The encodings of the Line Link and of the station port, obligations O6 and O7. -/

namespace Sys2Proof.Machine

open Sys2Proof

set_option Elab.async false

/-! ## Bytes written and read back -/

@[simp] theorem beBytes_length : ∀ k v : Nat, (beBytes k v).length = k
  | 0, _ => rfl
  | k + 1, v => congrArg (· + 1) (beBytes_length k v)

/-- A list of bytes read from a standing value on. -/
theorem foldl_bytes (bs : List Byte) : ∀ a : Nat,
    bs.foldl (fun a b => a * 256 + b.toNat) a = a * 256 ^ bs.length + beNat bs := by
  induction bs with
  | nil => simp [beNat]
  | cons b bs ih =>
    intro a
    have h0 : beNat (b :: bs) = b.toNat * 256 ^ bs.length + beNat bs := by simpa [beNat] using ih b.toNat
    rw [List.foldl_cons, ih, h0, List.length_cons, pow_succ]
    ring

theorem beNat_cons (b : Byte) (bs : List Byte) : beNat (b :: bs) = b.toNat * 256 ^ bs.length + beNat bs := by
  simpa [beNat] using foldl_bytes bs b.toNat

/-- The bytes of a quantity hold its low bytes. -/
theorem beNat_beBytes (k v : Nat) : beNat (beBytes k v) = v % 256 ^ k := by
  induction k with
  | zero => simp [beBytes, beNat, Nat.mod_one]
  | succ k ih =>
    rw [beBytes, beNat_cons, ih, beBytes_length, BitVec.toNat_ofNat, pow_succ 256 k, Nat.mod_mul]
    ring

/-- A field that begins a list of bytes. -/
theorem field_beBytes (k v : Nat) (r : List Byte) : field (beBytes k v ++ r) 0 k = v % 256 ^ k := by
  rw [field, List.drop_zero, List.take_left' (beBytes_length k v), beNat_beBytes]

/-- A field that ends a list of bytes. -/
theorem field_beBytes_last (k v : Nat) : field (beBytes k v) 0 k = v % 256 ^ k := by
  simpa using field_beBytes k v []

/-- A field past the first part of a list of bytes. -/
theorem field_past (a r : List Byte) {n : Nat} (k : Nat) (h : a.length ≤ n) :
    field (a ++ r) n k = field r (n - a.length) k := by
  rw [field, field, List.drop_append, List.drop_eq_nil_of_le h, List.nil_append]

/-- A list of bytes past its first part. -/
theorem drop_past (a r : List Byte) {n : Nat} (h : a.length ≤ n) : (a ++ r).drop n = r.drop (n - a.length) := by
  rw [List.drop_append, List.drop_eq_nil_of_le h, List.nil_append]

/-- A word is read back from its bytes. -/
theorem ofNat_mod_self {w n : Nat} (x : BitVec w) (h : n = 2 ^ w := by rfl) : BitVec.ofNat w (x.toNat % n) = x := by
  rw [h, Nat.mod_eq_of_lt x.isLt, BitVec.ofNat_toNat, BitVec.setWidth_eq]

/-! ## Codes -/

@[simp] theorem roleOf_code (r : Role) : roleOf (roleCode r) = some r := by cases r <;> rfl
@[simp] theorem levelOf_code (l : ZoneLevel) : levelOf (levelCode l) = some l := by cases l <;> rfl
@[simp] theorem atmOf_code (a : AtmState) : atmOf (atmCode a) = some a := by cases a <;> rfl
@[simp] theorem supplyOf_code (x : Supply) : supplyOf (supplyCode x) = x := by cases x <;> rfl
@[simp] theorem unheardOf_code (x : UnheardReason) : unheardOf (unheardCode x) = some x := by cases x <;> rfl
@[simp] theorem causeOf_code (x : ZoneCause) : causeOf (causeCode x) = some x := by cases x <;> rfl
@[simp] theorem refusalOf_code (x : RefusalReason) : refusalOf (refusalCode x) = some x := by cases x <;> rfl
@[simp] theorem cancelOf_code (x : CancelReason) : cancelOf (cancelCode x) = some x := by cases x <;> rfl
@[simp] theorem outcomeOf_code (x : HistoryOutcome) : outcomeOf (outcomeCode x) = some x := by cases x <;> rfl
@[simp] theorem basisOf_code (x : Basis) : basisOf (basisCode x) = x := by cases x <;> rfl

theorem roleCode_le (r : Role) : roleCode r ≤ 2 := by cases r <;> decide
theorem levelCode_le (l : ZoneLevel) : levelCode l ≤ 5 := by cases l <;> decide
theorem atmCode_le (a : AtmState) : atmCode a ≤ 4 := by cases a <;> decide
theorem supplyCode_le (x : Supply) : supplyCode x ≤ 1 := by cases x <;> decide
theorem unheardCode_le (x : UnheardReason) : unheardCode x ≤ 3 := by cases x <;> decide
theorem causeCode_le (x : ZoneCause) : causeCode x ≤ 5 := by cases x <;> decide
theorem refusalCode_le (x : RefusalReason) : refusalCode x ≤ 7 := by cases x <;> decide
theorem cancelCode_le (x : CancelReason) : cancelCode x ≤ 4 := by cases x <;> decide
theorem outcomeCode_le (x : HistoryOutcome) : outcomeCode x ≤ 4 := by cases x <;> decide
theorem basisCode_le (x : Basis) : basisCode x ≤ 1 := by cases x <;> decide
theorem bitNat_le (b : Bool) : bitNat b ≤ 1 := by cases b <;> decide

/-- A bit of a quantity that carries it above `a` and below `c`. -/
theorem natBit_at {i v a c : Nat} {b : Bool} (ha : a < 2 ^ i) (h : v = a + 2 ^ i * (bitNat b + 2 * c)) :
    natBit v i = b := by
  have hd : v / 2 ^ i = bitNat b + 2 * c := by
    rw [h, Nat.add_mul_div_left _ _ (Nat.two_pow_pos i), Nat.div_eq_of_lt ha, Nat.zero_add]
  rw [natBit, hd]
  cases b <;> simp [bitNat]

/-- The marks are read back from their byte. -/
theorem marksOf_code (m : Marks) : marksOf (marksCode m) = m := by
  obtain ⟨a, b, c, d, e, f, g, h⟩ := m
  revert a b c d e f g h
  decide

theorem marksCode_lt (m : Marks) : marksCode m < 256 := by
  obtain ⟨a, b, c, d, e, f, g, h⟩ := m
  have := bitNat_le a; have := bitNat_le b; have := bitNat_le c; have := bitNat_le d
  have := bitNat_le e; have := bitNat_le f; have := bitNat_le g; have := bitNat_le h
  simp only [marksCode]
  omega

/-! ## ALARM and JOIN -/

theorem alarmOk_iff (f : AlarmFrame) : alarmOk f = true ↔ (1 ≤ f.station ∧ f.station ≤ 31) ∧ 1 ≤ f.zone ∧ f.zone ≤ 8 := by
  simp [alarmOk, stationOk, zoneOk]

/-- An ALARM is read back from its payload. -/
theorem readAlarm_payload (f : AlarmFrame) (h : alarmOk f = true) :
    readAlarm f.station (alarmPayload f) = some (.alarm f) := by
  obtain ⟨-, hz⟩ := (alarmOk_iff f).1 h
  have hl := levelCode_le f.level
  have hc := causeCode_le f.cause
  have ht := bitNat_le f.testFlag
  have h0 : field (alarmPayload f) 0 1 = bitNat f.testFlag * 128 + (f.zone - 1) * 8 + levelCode f.level := by
    rw [alarmPayload, List.append_assoc, field_beBytes]
    omega
  have h1 : field (alarmPayload f) 1 1 = causeCode f.cause := by
    rw [alarmPayload, List.append_assoc, field_past _ _ _ (by simp), beBytes_length, field_beBytes]
    omega
  have hlevel : field (alarmPayload f) 0 1 % 8 = levelCode f.level := by omega
  have hzone : field (alarmPayload f) 0 1 / 8 % 8 + 1 = f.zone := by omega
  have hflag : natBit (field (alarmPayload f) 0 1) 7 = f.testFlag :=
    natBit_at (a := (f.zone - 1) * 8 + levelCode f.level) (c := 0) (by omega) (by omega)
  have hlen : (alarmPayload f).length = 3 := by simp [alarmPayload]
  unfold readAlarm
  rw [hlevel, h1, hzone, hflag, levelOf_code, causeOf_code, hlen]
  rfl

theorem joinOk_iff (f : JoinFrame) : joinOk f = true ↔
    (1 ≤ f.station ∧ f.station ≤ 31) ∧ (1 ≤ f.zone ∧ f.zone ≤ 8) ∧ (2 ≤ f.periodCode ∧ f.periodCode ≤ 20)
      ∧ f.epoch < 256 := by
  simp [joinOk, stationOk, zoneOk, periodOk, fitsBytes, and_assoc]

/-- The role and the zone of P0 of a STATE and a JOIN. -/
theorem roleZone_read (r : Role) {zone low : Nat} (hz : 1 ≤ zone ∧ zone ≤ 8) (hl : low < 8) :
    (roleZone r zone + low) % 256 / 64 = roleCode r ∧ (roleZone r zone + low) % 256 / 8 % 8 + 1 = zone
      ∧ (roleZone r zone + low) % 256 % 8 = low := by
  have hr := roleCode_le r
  unfold roleZone
  omega

/-- A JOIN is read back from its payload. -/
theorem readJoin_payload (f : JoinFrame) (h : joinOk f = true) :
    readJoin f.station (joinPayload f) = some (.join f) := by
  obtain ⟨-, hz, hp, he⟩ := (joinOk_iff f).1 h
  obtain ⟨hr1, hr2, -⟩ := roleZone_read f.role (low := 0) hz (by decide)
  have h0 : field (joinPayload f) 0 1 = (roleZone f.role f.zone + 0) % 256 := by
    rw [joinPayload, List.append_assoc, List.append_assoc, field_beBytes]
    rfl
  have h1 : field (joinPayload f) 1 1 = f.periodCode := by
    simp [joinPayload, List.append_assoc, field_past, field_beBytes]
    omega
  have h2 : field (joinPayload f) 2 1 = f.epoch := by
    simp [joinPayload, List.append_assoc, field_past, field_beBytes]
    omega
  have h3 : BitVec.ofNat 64 (field (joinPayload f) 3 8) = f.uniqueId := by
    simp [joinPayload, List.append_assoc, field_past, field_beBytes_last, ofNat_mod_self]
  have hlen : (joinPayload f).length = 11 := by simp [joinPayload]
  unfold readJoin
  rw [h0, hr1, hr2, roleOf_code, hlen, h1, h2, h3]
  rfl

/-! ## STATE -/

/-- An unheard list is read back from its bytes. -/
theorem readUnheard_bytes {l : List UnheardEntry} (h : ∀ e ∈ l, e.station ≤ 31) :
    readUnheard (l.flatMap (fun e => beBytes 1 (unheardCode e.reason * 32 + e.station))) = some l := by
  induction l with
  | nil => rfl
  | cons e l ih =>
    have hs := h e (by simp)
    have hc := unheardCode_le e.reason
    have hb : (BitVec.ofNat 8 ((unheardCode e.reason * 32 + e.station) / 256 ^ 0)).toNat
        = unheardCode e.reason * 32 + e.station := by
      rw [pow_zero, Nat.div_one, BitVec.toNat_ofNat]
      omega
    have h1 : (unheardCode e.reason * 32 + e.station) / 32 % 4 = unheardCode e.reason := by omega
    have h2 : (unheardCode e.reason * 32 + e.station) % 32 = e.station := by omega
    simp only [List.flatMap_cons, beBytes, List.cons_append, List.nil_append, readUnheard, hb, h1, h2, unheardOf_code]
    rw [show l.flatMap (fun e => [BitVec.ofNat 8 ((unheardCode e.reason * 32 + e.station) / 256 ^ 0)])
      = l.flatMap (fun e => beBytes 1 (unheardCode e.reason * 32 + e.station)) from rfl,
      ih (fun x hx => h x (by simp [hx]))]

/-- What the ranges of a STATE are. -/
structure StateRanges (f : StateFrame) : Prop where
  station : 1 ≤ f.station ∧ f.station ≤ 31
  zone : 1 ≤ f.zone ∧ f.zone ≤ 8
  period : 2 ≤ f.periodCode ∧ f.periodCode ≤ 20
  epoch : f.epoch < 256
  sequence : f.sequence ≤ 15
  healthy : f.healthy ≤ 4
  allowance : f.allowance < 4294967296
  free : f.freePlaces ≤ 8
  held : f.heldCount < 256
  consumed : f.consumedCount < 65536
  lot : f.openLot < 65536
  echo : f.echo < 256
  length : f.unheard.length ≤ 8
  stations : ∀ e ∈ f.unheard, e.station ≤ 31

theorem StateRanges.of {f : StateFrame} (h : stateOk f = true) : StateRanges f := by
  simp only [stateOk, stationOk, zoneOk, periodOk, fitsBytes, Bool.and_eq_true, decide_eq_true_eq, List.all_eq_true] at h
  obtain ⟨⟨⟨⟨⟨⟨⟨⟨⟨⟨⟨⟨⟨⟨h1, h2⟩, h3⟩, h4⟩, h5⟩, h6⟩, h7⟩, h8⟩, h9⟩, h10⟩, h11⟩, h12⟩, h13⟩, h14⟩, -⟩ := h
  exact ⟨h1, h2, h3, h4, h5, h6, h7, h8, h9, h10, h11, h12, h13, fun e he => (h14 e he).2⟩

/-- A STATE is read back from its payload. -/
theorem readState_payload (f : StateFrame) (h : StateRanges f) :
    readState f.station (statePayload f) = some (.state f) := by
  have hs := bitNat_le f.strict
  have ht := bitNat_le f.testFlag
  have hx := supplyCode_le f.supply
  have ha := atmCode_le f.atmosphere
  have ho := bitNat_le f.overflow
  have hl := levelCode_le f.level
  obtain ⟨hz, hsq, hh, hu⟩ := And.intro h.zone (And.intro h.sequence (And.intro h.healthy h.length))
  obtain ⟨r1, r2, r3⟩ := roleZone_read f.role (low := levelCode f.level) hz (by omega)
  have at' : ∀ {n k v : Nat}, field (statePayload f) n k = v % 256 ^ k → v < 256 ^ k → field (statePayload f) n k = v :=
    fun h1 h2 => h1.trans (Nat.mod_eq_of_lt h2)
  have f0 : field (statePayload f) 0 1 = (roleZone f.role f.zone + levelCode f.level) % 256 := by
    simp only [statePayload, List.append_assoc, field_beBytes]
    rfl
  have f1 : field (statePayload f) 1 1 = f.periodCode :=
    at' (by simp [statePayload, List.append_assoc, field_past, field_beBytes]) (by have := h.period; omega)
  have f2 : field (statePayload f) 2 1 = f.epoch :=
    at' (by simp [statePayload, List.append_assoc, field_past, field_beBytes]) h.epoch
  have f3 : field (statePayload f) 3 1 =
      f.sequence * 16 + bitNat f.strict * 8 + bitNat f.testFlag * 4 + supplyCode f.supply * 2 :=
    at' (by simp [statePayload, List.append_assoc, field_past, field_beBytes]) (by omega)
  have f4 : field (statePayload f) 4 1 = f.healthy * 32 + atmCode f.atmosphere * 4 :=
    at' (by simp [statePayload, List.append_assoc, field_past, field_beBytes]) (by omega)
  have f5 : field (statePayload f) 5 4 = f.allowance :=
    at' (by simp [statePayload, List.append_assoc, field_past, field_beBytes]) h.allowance
  have f9 : field (statePayload f) 9 1 = f.freePlaces :=
    at' (by simp [statePayload, List.append_assoc, field_past, field_beBytes]) (by have := h.free; omega)
  have f10 : field (statePayload f) 10 1 = f.heldCount :=
    at' (by simp [statePayload, List.append_assoc, field_past, field_beBytes]) h.held
  have f11 : field (statePayload f) 11 2 = f.consumedCount :=
    at' (by simp [statePayload, List.append_assoc, field_past, field_beBytes]) h.consumed
  have f13 : field (statePayload f) 13 2 = f.openLot :=
    at' (by simp [statePayload, List.append_assoc, field_past, field_beBytes]) h.lot
  have f15 : field (statePayload f) 15 1 = f.echo :=
    at' (by simp [statePayload, List.append_assoc, field_past, field_beBytes]) h.echo
  have f16 : field (statePayload f) 16 1 = bitNat f.overflow * 128 + f.unheard.length :=
    at' (by simp [statePayload, List.append_assoc, field_past, field_beBytes]) (by omega)
  have hdrop : (statePayload f).drop 17
      = f.unheard.flatMap (fun e => beBytes 1 (unheardCode e.reason * 32 + e.station)) := by
    simp [statePayload, List.append_assoc, drop_past]
  have hlen : (statePayload f).length = 17 + f.unheard.length := by
    simp [statePayload, List.length_flatMap]
    omega
  have e16 : (bitNat f.overflow * 128 + f.unheard.length) % 16 = f.unheard.length := by omega
  have e3 : (f.sequence * 16 + bitNat f.strict * 8 + bitNat f.testFlag * 4 + supplyCode f.supply * 2) / 16
      = f.sequence := by omega
  have e3s : (f.sequence * 16 + bitNat f.strict * 8 + bitNat f.testFlag * 4 + supplyCode f.supply * 2) / 2 % 2
      = supplyCode f.supply := by omega
  have b3 : natBit (f.sequence * 16 + bitNat f.strict * 8 + bitNat f.testFlag * 4 + supplyCode f.supply * 2) 3
      = f.strict :=
    natBit_at (a := bitNat f.testFlag * 4 + supplyCode f.supply * 2) (c := f.sequence) (by omega) (by omega)
  have b2 : natBit (f.sequence * 16 + bitNat f.strict * 8 + bitNat f.testFlag * 4 + supplyCode f.supply * 2) 2
      = f.testFlag :=
    natBit_at (a := supplyCode f.supply * 2) (c := bitNat f.strict + 2 * f.sequence) (by omega) (by omega)
  have e4 : (f.healthy * 32 + atmCode f.atmosphere * 4) / 32 = f.healthy := by omega
  have e4a : (f.healthy * 32 + atmCode f.atmosphere * 4) / 4 % 8 = atmCode f.atmosphere := by omega
  have b16 : natBit (bitNat f.overflow * 128 + f.unheard.length) 7 = f.overflow :=
    natBit_at (a := f.unheard.length) (c := 0) (by omega) (by omega)
  unfold readState
  rw [f0, f1, f2, f3, f4, f5, f9, f10, f11, f13, f15, f16, hdrop, hlen, r1, r2, r3, e16, e3, e3s, b3, b2, e4, e4a, b16,
    readUnheard_bytes h.stations, roleOf_code, levelOf_code, atmOf_code, supplyOf_code]
  simp

/-! ## The handoff frames -/

/-- A history is read back from its bytes. -/
theorem readHistory_bytes {l : List HistoryEntry} (h : ∀ e ∈ l, e.station ≤ 31) :
    readHistory (l.flatMap (fun e => beBytes 1 (e.station * 8 + outcomeCode e.outcome))) = some l := by
  induction l with
  | nil => rfl
  | cons e l ih =>
    have hs := h e (by simp)
    have hc := outcomeCode_le e.outcome
    have hb : (BitVec.ofNat 8 ((e.station * 8 + outcomeCode e.outcome) / 256 ^ 0)).toNat
        = e.station * 8 + outcomeCode e.outcome := by
      rw [pow_zero, Nat.div_one, BitVec.toNat_ofNat]
      omega
    have h1 : (e.station * 8 + outcomeCode e.outcome) % 8 = outcomeCode e.outcome := by omega
    have h2 : (e.station * 8 + outcomeCode e.outcome) / 8 = e.station := by omega
    simp only [List.flatMap_cons, beBytes, List.cons_append, List.nil_append, readHistory, hb, h1, h2, outcomeOf_code]
    rw [show l.flatMap (fun e => [BitVec.ofNat 8 ((e.station * 8 + outcomeCode e.outcome) / 256 ^ 0)])
      = l.flatMap (fun e => beBytes 1 (e.station * 8 + outcomeCode e.outcome)) from rfl,
      ih (fun x hx => h x (by simp [hx]))]

/-- What the ranges of a pack record block are. -/
structure PackRanges (p : PackData) : Prop where
  chemistry : p.chemistry ≤ 3
  grade : p.grade ≤ 3
  cells : p.cells ≤ 240
  eNom : p.eNom < 4294967296
  eDecl : ∀ e, p.eDecl = some e → e < 4294967296
  iPack : p.iPack ≤ 40000
  eDis : p.eDis < 4294967296
  eDisRem : p.eDisRem ≤ 999999
  residual : ∀ e, p.residual = some e → e < 4294967296
  rounds : p.rounds ≤ 4
  length : p.history.length ≤ 6
  stations : ∀ e ∈ p.history, e.station ≤ 31

theorem PackRanges.of {p : PackData} (h : packOk p = true) : PackRanges p := by
  simp only [packOk, stationOk, fitsBytes, Bool.and_eq_true, decide_eq_true_eq, List.all_eq_true] at h
  obtain ⟨⟨⟨⟨⟨⟨⟨⟨⟨⟨⟨⟨h1, h2⟩, h3⟩, -⟩, h5⟩, h6⟩, h7⟩, h8⟩, h9⟩, h10⟩, h11⟩, h12⟩, h13⟩ := h
  refine ⟨h1, h2, h3.2, h5, fun e he => ?_, h7.2, h8, h9, fun e he => ?_, h11, h12, fun e he => (h13 e he).2⟩
  · simpa [he, fitsBytes] using h6
  · simpa [he, fitsBytes] using h10

/-- An optional quantity is read back from its presence and its bytes. -/
theorem optional_read {o : Option Nat} (h : ∀ e, o = some e → e < 4294967296) {b : Bool} (hb : b = o.isSome) {n : Nat}
    (hn : n = o.getD 0 % 256 ^ 4) : (if b = true then some n else none) = o := by
  subst hb hn
  cases o with
  | none => rfl
  | some e => simpa using Nat.mod_eq_of_lt (h e rfl)

/-- A pack record block is read back from its bytes. -/
theorem readPack_block (p : PackData) (h : PackRanges p) : readPack (packBlock p) = some p := by
  have hb := basisCode_le p.basis
  have hd := bitNat_le p.eDecl.isSome
  have hr := bitNat_le p.residual.isSome
  obtain ⟨hc, hg, hn, ho⟩ := And.intro h.chemistry (And.intro h.grade (And.intro h.length h.rounds))
  have at' : ∀ {n k v : Nat}, field (packBlock p) n k = v % 256 ^ k → v < 256 ^ k → field (packBlock p) n k = v :=
    fun h1 h2 => h1.trans (Nat.mod_eq_of_lt h2)
  have f0 : field (packBlock p) 0 1 = p.chemistry * 64 + p.grade * 16 + basisCode p.basis * 8
      + bitNat p.eDecl.isSome * 4 + bitNat p.residual.isSome * 2 :=
    at' (by simp [packBlock, List.append_assoc, field_beBytes]) (by omega)
  have f1 : field (packBlock p) 1 1 = p.cells :=
    at' (by simp [packBlock, List.append_assoc, field_past, field_beBytes]) (by have := h.cells; omega)
  have f2 : field (packBlock p) 2 4 = p.eNom :=
    at' (by simp [packBlock, List.append_assoc, field_past, field_beBytes]) h.eNom
  have f6 : field (packBlock p) 6 4 = p.eDecl.getD 0 % 256 ^ 4 := by
    simp [packBlock, List.append_assoc, field_past, field_beBytes]
  have f10 : field (packBlock p) 10 2 = p.iPack :=
    at' (by simp [packBlock, List.append_assoc, field_past, field_beBytes]) (by have := h.iPack; omega)
  have f12 : field (packBlock p) 12 4 = p.eDis :=
    at' (by simp [packBlock, List.append_assoc, field_past, field_beBytes]) h.eDis
  have f16 : field (packBlock p) 16 3 = p.eDisRem :=
    at' (by simp [packBlock, List.append_assoc, field_past, field_beBytes]) (by have := h.eDisRem; omega)
  have f19 : field (packBlock p) 19 4 = p.residual.getD 0 % 256 ^ 4 := by
    simp [packBlock, List.append_assoc, field_past, field_beBytes]
  have f23 : field (packBlock p) 23 1 = p.history.length * 16 + p.rounds :=
    at' (by simp [packBlock, List.append_assoc, field_past, field_beBytes]) (by omega)
  have f24 : field (packBlock p) 24 1 = marksCode p.marks :=
    at' (by simp [packBlock, List.append_assoc, field_past, field_beBytes]) (marksCode_lt p.marks)
  have hdrop : (packBlock p).drop 25 = p.history.flatMap (fun e => beBytes 1 (e.station * 8 + outcomeCode e.outcome)) := by
    simp [packBlock, List.append_assoc, drop_past]
  have hlen : (packBlock p).length = 25 + p.history.length := by
    simp [packBlock, List.length_flatMap]
    omega
  have e23 : (p.history.length * 16 + p.rounds) / 16 % 8 = p.history.length := by omega
  have e23r : (p.history.length * 16 + p.rounds) % 8 = p.rounds := by omega
  have hdecl : (if natBit (field (packBlock p) 0 1) 2 = true then some (field (packBlock p) 6 4) else none) = p.eDecl :=
    optional_read h.eDecl (natBit_at (a := bitNat p.residual.isSome * 2)
      (c := basisCode p.basis + 2 * (p.grade + 4 * p.chemistry)) (by omega) (by omega)) f6
  have hres : (if natBit (field (packBlock p) 0 1) 1 = true then some (field (packBlock p) 19 4) else none)
      = p.residual :=
    optional_read h.residual (natBit_at (a := 0)
      (c := bitNat p.eDecl.isSome + 2 * (basisCode p.basis + 2 * (p.grade + 4 * p.chemistry))) (by omega) (by omega)) f19
  have e0 : field (packBlock p) 0 1 / 64 = p.chemistry := by omega
  have e0g : field (packBlock p) 0 1 / 16 % 4 = p.grade := by omega
  have e0b : field (packBlock p) 0 1 / 8 % 2 = basisCode p.basis := by omega
  unfold readPack
  rw [hdecl, hres, e0, e0g, e0b, f1, f2, f10, f12, f16, f23, f24, hdrop, hlen, e23, e23r, readHistory_bytes h.stations,
    basisOf_code, marksOf_code]
  simp

theorem headOk_iff (h : HandoffHead) : headOk h = true ↔
    (1 ≤ h.station ∧ h.station ≤ 31) ∧ (1 ≤ h.destination ∧ h.destination ≤ 31) ∧ h.offerNumber < 256 := by
  simp [headOk, stationOk, fitsBytes, and_assoc]

theorem headPayload_length (h : HandoffHead) : (headPayload h).length = 8 := by simp [headPayload]

/-- The head of a handoff frame is read back, whatever follows it. -/
theorem readHead_payload (h : HandoffHead) (hk : headOk h = true) (r : List Byte) :
    readHead h.station (headPayload h ++ r) = h := by
  obtain ⟨-, hd, ho⟩ := (headOk_iff h).1 hk
  have f0 : field (headPayload h ++ r) 0 1 % 32 = h.destination := by
    simp [headPayload, List.append_assoc, field_beBytes]
    omega
  have f1 : BitVec.ofNat 48 (field (headPayload h ++ r) 1 6) = h.packId := by
    simp [headPayload, List.append_assoc, field_past, field_beBytes, ofNat_mod_self]
  have f7 : field (headPayload h ++ r) 7 1 = h.offerNumber := by
    simp [headPayload, List.append_assoc, field_past, field_beBytes]
    omega
  rw [readHead, f0, f1, f7]

/-- The ninth byte of a handoff frame other than OFFER. -/
theorem field_head (h : HandoffHead) {v : Nat} (hv : v < 256) : field (headPayload h ++ beBytes 1 v) 8 1 = v := by
  rw [field_past _ _ _ (by simp [headPayload]), headPayload_length, field_beBytes_last]
  omega

/-- A handoff frame is read back from its payload. -/
theorem readHandoff_payload (f : HandoffFrame) (h : handoffOk f = true) :
    readHandoff (frameKind (.handoff f)) (handoffHead f).station (handoffPayload f) = some (.handoff f) := by
  cases f with
  | offer f =>
    simp only [handoffOk, Bool.and_eq_true] at h
    have hd : (headPayload f.head ++ packBlock f.pack).drop 8 = packBlock f.pack := by
      rw [drop_past _ _ (by simp [headPayload]), headPayload_length, List.drop_zero]
    simp [readHandoff, frameKind, handoffHead, handoffPayload, readHead_payload f.head h.1, hd,
      readPack_block f.pack (.of h.2)]
  | grant f =>
    simp only [handoffOk, Bool.and_eq_true, fitsBytes, decide_eq_true_eq] at h
    simp [readHandoff, frameKind, handoffHead, handoffPayload, readHead_payload f.head h.1, headPayload_length,
      field_head f.head h.2]
  | refuse f =>
    have hc := refusalCode_le f.reason
    simp [readHandoff, frameKind, handoffHead, handoffPayload, readHead_payload f.head h, headPayload_length,
      field_head f.head (show refusalCode f.reason < 256 by omega)]
  | taken f =>
    have hc := bitNat_le f.late
    have hl : decide (bitNat f.late = 1) = f.late := by cases f.late <;> rfl
    simp [readHandoff, frameKind, handoffHead, handoffPayload, readHead_payload f.head h, headPayload_length,
      field_head f.head (show bitNat f.late < 256 by omega), hc, hl]
  | cancel f =>
    have hc := cancelCode_le f.reason
    simp [readHandoff, frameKind, handoffHead, handoffPayload, readHead_payload f.head h, headPayload_length,
      field_head f.head (show cancelCode f.reason < 256 by omega)]

/-! ## Receipt -/

/-- A frame is read back from its payload, by its kind. -/
theorem readPayload_payload (f : Frame) (h : frameOk f = true) :
    readPayload (frameKind f) (frameStation f) (framePayload f) = some f := by
  cases f with
  | alarm f => exact readAlarm_payload f h
  | state f => exact readState_payload f (.of h)
  | join f => exact readJoin_payload f h
  | handoff f =>
    have hk : 1 ≤ frameKind (.handoff f) ∧ frameKind (.handoff f) ≤ 5 := by cases f <;> simp [frameKind]
    rw [readPayload, if_neg (by omega), if_pos hk.2]
    exact readHandoff_payload f h

theorem frameClass_kind (f : Frame) : kindClass (frameKind f) = frameClass f ∧ frameKind f ≤ 7 ∧ frameClass f ≤ 3 := by
  rcases f with f | (f | f | f | f | f) | f | f <;> simp [kindClass, frameKind, frameClass]

theorem frameOk_station {f : Frame} (h : frameOk f = true) : 1 ≤ frameStation f ∧ frameStation f ≤ 31 := by
  rcases f with f | (f | f | f | f | f) | f | f
  · exact ((alarmOk_iff f).1 h).1
  · exact ((headOk_iff f.head).1 (Bool.and_eq_true _ _ ▸ h).1).1
  · exact ((headOk_iff f.head).1 (Bool.and_eq_true _ _ ▸ h).1).1
  · exact ((headOk_iff f.head).1 h).1
  · exact ((headOk_iff f.head).1 h).1
  · exact ((headOk_iff f.head).1 h).1
  · exact (StateRanges.of h).station
  · exact ((joinOk_iff f).1 h).1

/-- A payload is 3 to 39 bytes long. -/
theorem framePayload_length {f : Frame} (h : frameOk f = true) :
    3 ≤ (framePayload f).length ∧ (framePayload f).length ≤ 39 := by
  rcases f with f | (f | f | f | f | f) | f | f
  · simp [framePayload, alarmPayload]
  · have hp := (PackRanges.of (Bool.and_eq_true _ _ ▸ h).2).length
    simp [framePayload, handoffPayload, headPayload_length, packBlock, List.length_flatMap]
    omega
  · simp [framePayload, handoffPayload, headPayload_length]
  · simp [framePayload, handoffPayload, headPayload_length]
  · simp [framePayload, handoffPayload, headPayload_length]
  · simp [framePayload, handoffPayload, headPayload_length]
  · have hp := (StateRanges.of h).length
    simp [framePayload, statePayload, List.length_flatMap]
    omega
  · simp [framePayload, joinPayload]

/-- A body of a frame under a check: received as the frame where the check is the body's, and not received where it is
not. -/
theorem receipt_body (f : Frame) (h : frameOk f = true) (c : Check) :
    receipt (frameBody f ++ beBytes 2 c.toNat) = if c = frameCheck (frameBody f) then some f else none := by
  obtain ⟨hk, hkind, hclass⟩ := frameClass_kind f
  have hs := frameOk_station h
  have hl := framePayload_length h
  have hb : (frameBody f).length = (framePayload f).length + 3 := by simp [frameBody]; omega
  have hn : (frameBody f ++ beBytes 2 c.toNat).length = (framePayload f).length + 5 := by simp [hb]
  have htake : (frameBody f ++ beBytes 2 c.toNat).take ((framePayload f).length + 5 - 2) = frameBody f :=
    List.take_left' (by rw [hb]; omega)
  have hdrop : (frameBody f).drop 3 = framePayload f := by simp [frameBody, List.append_assoc, drop_past]
  have f0 : field (frameBody f ++ beBytes 2 c.toNat) 0 1 = frameClass f * 64 + frameStation f * 2 := by
    simp [frameBody, List.append_assoc, field_beBytes]
    omega
  have f1 : field (frameBody f ++ beBytes 2 c.toNat) 1 1 = frameKind f := by
    simp [frameBody, List.append_assoc, field_past, field_beBytes]
    omega
  have f2 : field (frameBody f ++ beBytes 2 c.toNat) 2 1 = (framePayload f).length + 5 := by
    simp [frameBody, List.append_assoc, field_past, field_beBytes]
    omega
  have fc : field (frameBody f ++ beBytes 2 c.toNat) ((framePayload f).length + 5 - 2) 2 = c.toNat := by
    have hz : (framePayload f).length + 5 - 2 - (frameBody f).length = 0 := by omega
    rw [field_past _ _ _ (by omega), hz, field_beBytes_last]
    exact Nat.mod_eq_of_lt c.isLt
  have e0 : (frameClass f * 64 + frameStation f * 2) / 64 = frameClass f := by omega
  have e0s : (frameClass f * 64 + frameStation f * 2) / 2 % 32 = frameStation f := by omega
  have e0p : (frameClass f * 64 + frameStation f * 2) % 2 = 0 := by omega
  unfold receipt
  simp only [hn, f0, f1, f2, fc, htake, hdrop, e0, e0s, e0p, hk, readPayload_payload f h, h, if_true, BitVec.toNat_inj]
  by_cases hc : c = frameCheck (frameBody f)
  · rw [if_pos ⟨by omega, by omega, trivial, trivial, hkind, trivial, hc⟩, if_pos hc]
  · rw [if_neg (fun x => hc x.2.2.2.2.2.2), if_neg hc]

/-- Settles O6: the two checks a body can be sent under. -/
theorem sentFrameIsReceived : Obligations.SentFrameIsReceived := by
  intro f h
  refine ⟨(receipt_body f h _).trans (if_pos rfl), (receipt_body f h _).trans (if_neg ?_)⟩
  intro hc
  have h0 := congrArg (fun x : Check => x.getLsbD 0) hc
  simp at h0

/-! ## The request envelope -/

/-- A pack ID is read back from the parameters that begin with it. -/
theorem packIdAt_beBytes (i : PackId) (r : List Byte) : packIdAt (beBytes 6 i.toNat ++ r) = i := by
  rw [packIdAt, field_beBytes, ofNat_mod_self]

theorem packIdAt_alone (i : PackId) : packIdAt (beBytes 6 i.toNat) = i := by simpa using packIdAt_beBytes i []

/-- The parameters of ADMIT PACK as its request carries them (R185). -/
def admitBytes (p : AdmitParams) : List Byte :=
  beBytes 6 p.packId.toNat ++ [p.chemistry, p.cells] ++ beBytes 4 p.eNom.toNat ++ [p.eDeclPresence]
    ++ beBytes 4 p.eDecl.toNat ++ beBytes 2 p.iPack.toNat ++ [p.grade]

/-- The parameters of ADMIT PACK are read back from their bytes. -/
theorem admitParamsAt_bytes (p : AdmitParams) : admitParamsAt (admitBytes p) = p := by
  have h8 : BitVec.ofNat 32 (field (admitBytes p) 8 4) = p.eNom := by
    simp only [admitBytes, List.append_assoc]
    rw [field_past _ _ _ (by simp), beBytes_length, field_past _ _ _ (by simp)]
    exact (congrArg _ (field_beBytes 4 _ _)).trans (ofNat_mod_self _)
  have h13 : BitVec.ofNat 32 (field (admitBytes p) 13 4) = p.eDecl := by
    simp only [admitBytes, List.append_assoc]
    rw [field_past _ _ _ (by simp), beBytes_length, field_past _ _ _ (by simp), field_past _ _ _ (by simp),
      field_past _ _ _ (by simp)]
    simp only [beBytes_length, List.length_cons, List.length_nil]
    exact (congrArg _ (field_beBytes 4 _ _)).trans (ofNat_mod_self _)
  have h17 : BitVec.ofNat 16 (field (admitBytes p) 17 2) = p.iPack := by
    simp only [admitBytes, List.append_assoc]
    rw [field_past _ _ _ (by simp), beBytes_length, field_past _ _ _ (by simp), field_past _ _ _ (by simp),
      field_past _ _ _ (by simp), field_past _ _ _ (by simp)]
    simp only [beBytes_length, List.length_cons, List.length_nil]
    exact (congrArg _ (field_beBytes 2 _ _)).trans (ofNat_mod_self _)
  have h0 : packIdAt (admitBytes p) = p.packId := by
    simp only [admitBytes, List.append_assoc]
    exact packIdAt_beBytes _ _
  unfold admitParamsAt
  rw [h0, h8, h13, h17]
  rfl

/-- The code, the tag and the parameters of a request spell it, and are as long as its code says (R185): one row of the
table of requests after the other. -/
theorem requestParts_spell {c : Instr} {code : Nat} {tag : Byte} {ps : List Byte}
    (h : requestParts c = some (code, tag, ps)) :
    parameterBytes code = some ps.length ∧ code ≤ 36 ∧ ps.length ≤ 20 ∧ requestOf code tag ps = some c := by
  cases c
  case admitPack t p =>
    cases h
    refine ⟨by simp [parameterBytes], by decide, by simp, ?_⟩
    exact congrArg (fun q => some (Instr.admitPack tag q)) (admitParamsAt_bytes p)
  case readLot t n =>
    cases h
    refine ⟨rfl, by decide, by simp, ?_⟩
    rw [requestOf, field_beBytes_last, ofNat_mod_self]
  case setMask t k m =>
    cases h
    refine ⟨rfl, by decide, by simp, ?_⟩
    rw [requestOf, field_beBytes, ofNat_mod_self, field_past _ _ _ (by simp), beBytes_length, field_beBytes_last,
      ofNat_mod_self]
  all_goals simp only [requestParts, reduceCtorEq, Option.some.injEq, Prod.mk.injEq] at h
  all_goals
    obtain ⟨rfl, rfl, rfl⟩ := h
    simp [parameterBytes, requestOf, packIdAt_beBytes, packIdAt_alone]

/-! ## The sum of an envelope -/

theorem byteTotal_append (a b : List Byte) : byteTotal (a ++ b) = byteTotal a + byteTotal b := by
  have key : ∀ (l : List Byte) (x : Byte), l.foldl (· + ·) x = x + byteTotal l := by
    intro l
    induction l with
    | nil => simp [byteTotal]
    | cons y l ih =>
      intro x
      have h0 : byteTotal (y :: l) = 0 + y + byteTotal l := ih _
      rw [List.foldl_cons, ih, h0]
      simp [BitVec.add_assoc]
  rw [byteTotal, List.foldl_append]
  exact key b _

/-- The sum byte brings an envelope's total to 0. -/
theorem byteTotal_sum (l : List Byte) : byteTotal (l ++ [sumByte l]) = 0 := by
  rw [byteTotal_append]
  simp [byteTotal, sumByte]

/-- Settles O7: the tests of R186 on an envelope, and what its bytes then spell. -/
theorem envelopeSpellsRequest : Obligations.EnvelopeSpellsRequest := by
  intro c bs extra h
  cases hp : requestParts c with
  | none => simp [requestEnvelope, hp] at h
  | some x =>
    obtain ⟨code, tag, ps⟩ := x
    obtain ⟨hk, hcode, hlen, hreq⟩ := requestParts_spell hp
    let body := [BitVec.ofNat 8 (ps.length + 4), BitVec.ofNat 8 code, tag] ++ ps
    obtain rfl : body ++ [sumByte body] = bs := by
      rw [requestEnvelope, hp] at h
      exact Option.some.inj h
    let all := body ++ [sumByte body] ++ extra
    have hbody : body.length = ps.length + 3 := by simp [body]
    have f0 : field all 0 1 = ps.length + 4 := by
      show (0 * 256 + (BitVec.ofNat 8 (ps.length + 4)).toNat) = _
      rw [BitVec.toNat_ofNat]
      omega
    have f1 : field all 1 1 = code := by
      show (0 * 256 + (BitVec.ofNat 8 code).toNat) = _
      rw [BitVec.toNat_ofNat]
      omega
    have htake : all.take (ps.length + 4) = body ++ [sumByte body] :=
      List.take_left' (by simp [hbody])
    have hps : (all.take (ps.length + 4 - 1)).drop 3 = ps := by
      have hb : all.take (ps.length + 4 - 1) = body := by
        simp only [all, List.append_assoc]
        exact List.take_left' (by rw [hbody]; rfl)
      rw [hb]
      rfl
    have hne : all ≠ [] := by simp [all]
    have hall : ps.length + 4 ≤ all.length := by simp [all, hbody]; omega
    have hgood : judgeEnvelope all = .good := by
      unfold judgeEnvelope
      dsimp only
      rw [f0, if_neg (by simp [hne]), if_neg (by omega), htake, byteTotal_sum, if_neg (by simp), f1, hk]
      simp
    refine ⟨hgood, ?_⟩
    show readRequest all = some c
    rw [readRequest, if_pos hgood, f0, f1, hps]
    exact hreq

end Sys2Proof.Machine
end
